-- ==== Sys2Proof/Word.lean ====
section
/-! DEFINITION. The word types of the core (spec 00_scope R8: every value is unsigned). -/

namespace Sys2Proof

/-- A byte of a buffer, of the bus or of the DATA register. -/
abbrev Byte := BitVec 8

/-- A 32-bit host word: a CSR value, a command word, a host address. -/
abbrev Word := BitVec 32

/-- A 7-bit I2C address (SADDR, MMODE.ADDR, the A7 field). -/
abbrev Addr7 := BitVec 7

/-- A count, capacity or index: CNT_W ≤ 16 bits, kept in 16 (log 5). -/
abbrev Count := BitVec 16

/-- A bus-event snapshot as the PHY hands it over (30_encoding R93). -/
abbrev SnapWord := BitVec 16

end Sys2Proof
end

