-- ==== Sys2Proof/Config.lean ====
section
/-! DEFINITION. The implementation parameters (spec 00_scope R4) and the free values of the model. -/

namespace Sys2Proof

/-- The parameters of 00_scope rule R4. A model takes each as an argument: State holds one `Config`,
and no step writes it (log 1). -/
structure Config where
  /-- MASTER_EN: master role present. -/
  masterEn : Bool
  /-- SLAVE_EN: slave role present. -/
  slaveEn : Bool
  /-- MULTI_MASTER: the PHY reports lost arbitration and Start aborts. -/
  multiMaster : Bool
  /-- HW_ADDR_DECODE: the PHY delivers only matching address bytes (40 R140). It restricts the
  environment; no rule of the core reads it. -/
  hwAddrDecode : Bool
  /-- TIMEOUT_EN: a watchdog is configured. -/
  timeoutEn : Bool
  /-- AW: width of buffer pointers, 1 to 32. -/
  aw : Nat
  /-- CNT_W: width of counts, capacities and indices, 1 to 16. -/
  cntW : Nat
  /-- DEFAULT_SADDR, OPEN in the spec. -/
  defaultSaddr : Addr7
  /-- CLKDIV_DEFAULT, OPEN in the spec. -/
  clkdivDefault : BitVec 16
  /-- CSR_BASE, OPEN in the spec: the platform's. -/
  csrBase : Word
  deriving DecidableEq, Repr

/-- The defaults of rule R4. DESIGN CHOICE (log 2, unsafe for claims about `State.reset` alone): the
three OPEN parameters are 0 here. -/
def Config.standard : Config where
  masterEn := true
  slaveEn := true
  multiMaster := true
  hwAddrDecode := false
  timeoutEn := false
  aw := 32
  cntW := 16
  defaultSaddr := 0
  clkdivDefault := 0
  csrBase := 0

/-- Free value (log 9, safe): which of the bytes that race for one memory byte wins, as a choice
number. The n-th draw of a run reads `racePick n`; nothing constrains it (20_memory R70). -/
opaque Config.racePick : Nat → Nat

/-- Free value (log 10, safe): what a host load of a byte that the engine may be writing returns
(20_memory R70, 93 I9). -/
opaque Config.raceByte : Nat → Byte

end Sys2Proof
end

