-- ==== Sys2Proof/Syntax.lean ====
section
/-! DEFINITION. The command set: one constructor per row of spec/opcode_table.json (30_encoding R87). -/

namespace Sys2Proof

/-- Transfer direction: the R/W bit (30_encoding R83: 1 means read) and MMODE.DIR (10_state R40). -/
inductive Dir where
  | write
  | read
  deriving DecidableEq, Repr

/-- TransferMode (30_encoding R82): MODE[0] = REPEAT_START, MODE[1] = NO_STOP. -/
structure TransferMode where
  repeatStart : Bool
  noStop : Bool
  deriving DecidableEq, Repr

/-- The 27 commands. PTR and CNT operands are not in the word (30_encoding R91). -/
inductive Instr where
  -- 44_lifecycle
  | init
  | enable
  | start
  | stop
  -- 41_master_buffered and 42_master_manual, in the table's order
  | masterWriteBuf (a7 : Addr7) (mode : TransferMode)
  | masterReadBuf (a7 : Addr7) (mode : TransferMode)
  | masterSendStart (a7 : Addr7) (rw : Dir)
  | masterSendRestart (a7 : Addr7) (rw : Dir)
  | masterSendStop
  | masterWriteByte (d8 : Byte)
  | masterReadByte (ack : Bool)
  | masterStatus
  | masterClearStatus
  | masterGetReadBufSize
  | masterGetWriteBufSize
  | masterClearReadBuf
  | masterClearWriteBuf
  -- 43_slave_api
  | slaveSetAddress (a7 : Addr7)
  | slaveInitReadBuf
  | slaveInitWriteBuf
  | slaveStatus
  | slaveClearReadStatus
  | slaveClearWriteStatus
  | slaveGetReadBufSize
  | slaveGetWriteBufSize
  | slaveClearReadBuf
  | slaveClearWriteBuf
  deriving DecidableEq, Repr

end Sys2Proof
end

