-- ==== Sys2Proof/WellFormed.lean ====
section
/-! DEFINITION. Well-formedness. The operand types of `Instr` already have the widths of 30_encoding
R91, so the one check left for a command is that its role is present in the configuration (R89). -/

namespace Sys2Proof

/-- Which role a command belongs to (30_encoding R89). -/
inductive Role where
  | lifecycle
  | master
  | slave
  deriving DecidableEq, Repr

/-- The role of each command (30_encoding R89, by the families of R87). -/
def Instr.role : Instr → Role
  | .init | .enable | .start | .stop => .lifecycle
  | .masterWriteBuf _ _ | .masterReadBuf _ _ | .masterSendStart _ _ | .masterSendRestart _ _
  | .masterSendStop | .masterWriteByte _ | .masterReadByte _ | .masterStatus | .masterClearStatus
  | .masterGetReadBufSize | .masterGetWriteBufSize | .masterClearReadBuf
  | .masterClearWriteBuf => .master
  | .slaveSetAddress _ | .slaveInitReadBuf | .slaveInitWriteBuf | .slaveStatus
  | .slaveClearReadStatus | .slaveClearWriteStatus | .slaveGetReadBufSize | .slaveGetWriteBufSize
  | .slaveClearReadBuf | .slaveClearWriteBuf => .slave

/-- Whether a configuration has a role: MASTER_EN and SLAVE_EN (30_encoding R89). -/
def Config.hasRole (c : Config) : Role → Bool
  | .lifecycle => true
  | .master => c.masterEn
  | .slave => c.slaveEn

/-- A command is well formed for a configuration that has its role. -/
def Instr.wf (c : Config) (i : Instr) : Bool := c.hasRole i.role

/-- The ranges of 00_scope rule R4: AW in 1..32, CNT_W in 1..16, CSR_BASE an AW-bit value. -/
def Config.wf (c : Config) : Bool :=
  decide (1 ≤ c.aw) && decide (c.aw ≤ 32) && decide (1 ≤ c.cntW) && decide (c.cntW ≤ 16) &&
    decide (c.csrBase.toNat < 2 ^ c.aw)

end Sys2Proof
end

