-- ==== Sys2Proof/Decode.lean ====
section
/-! DEFINITION. The command decoder (30_encoding R80 to R92), total on 32-bit words, and the encoder
written from the same tables. A command is written to CMD as one 32-bit word, so there is no byte
order and no length to determine (20_memory R63, 30_encoding R99). -/

namespace Sys2Proof

/-- The six command formats (30_encoding R81 to R86). -/
inductive Format where
  | N
  | BUF
  | SR
  | WB
  | RB
  | SA
  deriving DecidableEq, Repr

/-- Why a word is ILLEGAL (30_encoding R88). The core reports all three alike (44_lifecycle R255). -/
inductive Illegal where
  /-- the opcode is not in the table of R87 -/
  | reservedOpcode
  /-- a reserved bit of the format is 1 -/
  | reservedBit
  /-- the configuration lacks the role (R89) -/
  | absent
  deriving DecidableEq, Repr

/-- The mask of each format: the bits that must equal `OP << 24` (30_encoding R81 to R86). -/
def Format.mask : Format → Word
  | .N => 0xFFFFFFFF#32
  | .BUF => 0xFF80FFFC#32
  | .SR => 0xFF80FFFE#32
  | .WB => 0xFFFF00FF#32
  | .RB => 0xFFFFFFFE#32
  | .SA => 0xFF80FFFF#32

/-- R/W as a bit: 1 means read (30_encoding R83, R90). -/
def Dir.bit : Dir → Bool
  | .write => false
  | .read => true

/-- The direction a bit names (30_encoding R83). -/
def Dir.ofBit (b : Bool) : Dir := if b then .read else .write

/-- The opcode map (30_encoding R87), as the format of each opcode. Every other opcode is reserved (R92). -/
def opcodeFormat (op : Byte) : Option Format :=
  match op.toNat with
  | 0x01 | 0x02 | 0x03 | 0x04 => some .N
  | 0x10 | 0x11 => some .BUF
  | 0x12 | 0x13 => some .SR
  | 0x14 => some .N
  | 0x15 => some .WB
  | 0x16 => some .RB
  | 0x17 | 0x18 | 0x19 | 0x1A | 0x1B | 0x1C => some .N
  | 0x20 => some .SA
  | 0x21 | 0x22 | 0x23 | 0x24 | 0x25 | 0x26 | 0x27 | 0x28 | 0x29 => some .N
  | _ => none

/-- Configuration presence by opcode range (30_encoding R89). -/
def opcodePresent (c : Config) (op : Byte) : Bool :=
  if 0x10 ≤ op.toNat ∧ op.toNat ≤ 0x1C then c.masterEn
  else if 0x20 ≤ op.toNat ∧ op.toNat ≤ 0x29 then c.slaveEn
  else true

/-- OP = CMD[31:24] (30_encoding R80). -/
def opField (w : Word) : Byte := w.extractLsb' 24 8

/-- A7 = CMD[22:16] (30_encoding R80). -/
def a7Field (w : Word) : Addr7 := w.extractLsb' 16 7

/-- D8 = CMD[15:8] (30_encoding R80). -/
def d8Field (w : Word) : Byte := w.extractLsb' 8 8

/-- MODE = CMD[1:0]: bit 0 REPEAT_START, bit 1 NO_STOP (30_encoding R82). -/
def modeField (w : Word) : TransferMode where
  repeatStart := w.getLsbD 0
  noStop := w.getLsbD 1

/-- B0 = CMD[0] (30_encoding R80). -/
def b0Field (w : Word) : Bool := w.getLsbD 0

/-- The command of an opcode, with the fields of the word (30_encoding R87, R88). -/
def commandOf (op : Byte) (w : Word) : Option Instr :=
  match op.toNat with
  | 0x01 => some .init
  | 0x02 => some .enable
  | 0x03 => some .start
  | 0x04 => some .stop
  | 0x10 => some (.masterWriteBuf (a7Field w) (modeField w))
  | 0x11 => some (.masterReadBuf (a7Field w) (modeField w))
  | 0x12 => some (.masterSendStart (a7Field w) (Dir.ofBit (b0Field w)))
  | 0x13 => some (.masterSendRestart (a7Field w) (Dir.ofBit (b0Field w)))
  | 0x14 => some .masterSendStop
  | 0x15 => some (.masterWriteByte (d8Field w))
  | 0x16 => some (.masterReadByte (b0Field w))
  | 0x17 => some .masterStatus
  | 0x18 => some .masterClearStatus
  | 0x19 => some .masterGetReadBufSize
  | 0x1A => some .masterGetWriteBufSize
  | 0x1B => some .masterClearReadBuf
  | 0x1C => some .masterClearWriteBuf
  | 0x20 => some (.slaveSetAddress (a7Field w))
  | 0x21 => some .slaveInitReadBuf
  | 0x22 => some .slaveInitWriteBuf
  | 0x23 => some .slaveStatus
  | 0x24 => some .slaveClearReadStatus
  | 0x25 => some .slaveClearWriteStatus
  | 0x26 => some .slaveGetReadBufSize
  | 0x27 => some .slaveGetWriteBufSize
  | 0x28 => some .slaveClearReadBuf
  | 0x29 => some .slaveClearWriteBuf
  | _ => none

/-- The decoder of 30_encoding rule R88, its three tests in the rule's order. -/
def decode (c : Config) (w : Word) : Except Illegal Instr :=
  match opcodeFormat (opField w) with
  | none => .error .reservedOpcode
  | some f =>
    if w &&& f.mask ≠ (opField w).setWidth 32 <<< 24 then .error .reservedBit
    else if !opcodePresent c (opField w) then .error .absent
    else
      match commandOf (opField w) w with
      | none => .error .reservedOpcode
      | some i => .ok i

/-- The opcode of each command (30_encoding R87). -/
def Instr.opcode : Instr → Byte
  | .init => 0x01
  | .enable => 0x02
  | .start => 0x03
  | .stop => 0x04
  | .masterWriteBuf _ _ => 0x10
  | .masterReadBuf _ _ => 0x11
  | .masterSendStart _ _ => 0x12
  | .masterSendRestart _ _ => 0x13
  | .masterSendStop => 0x14
  | .masterWriteByte _ => 0x15
  | .masterReadByte _ => 0x16
  | .masterStatus => 0x17
  | .masterClearStatus => 0x18
  | .masterGetReadBufSize => 0x19
  | .masterGetWriteBufSize => 0x1A
  | .masterClearReadBuf => 0x1B
  | .masterClearWriteBuf => 0x1C
  | .slaveSetAddress _ => 0x20
  | .slaveInitReadBuf => 0x21
  | .slaveInitWriteBuf => 0x22
  | .slaveStatus => 0x23
  | .slaveClearReadStatus => 0x24
  | .slaveClearWriteStatus => 0x25
  | .slaveGetReadBufSize => 0x26
  | .slaveGetWriteBufSize => 0x27
  | .slaveClearReadBuf => 0x28
  | .slaveClearWriteBuf => 0x29

/-- Format N: the opcode, bits 23..0 zero (30_encoding R81). -/
def encodeN (op : Byte) : Word := op ++ 0#24

/-- Format BUF: `oooooooo0aaaaaaa00000000000000nr` (30_encoding R82). -/
def encodeBUF (op : Byte) (a7 : Addr7) (m : TransferMode) : Word :=
  op ++ 0#1 ++ a7 ++ 0#14 ++ BitVec.ofBool m.noStop ++ BitVec.ofBool m.repeatStart

/-- Format SR: `oooooooo0aaaaaaa000000000000000w` (30_encoding R83). -/
def encodeSR (op : Byte) (a7 : Addr7) (rw : Dir) : Word :=
  op ++ 0#1 ++ a7 ++ 0#15 ++ BitVec.ofBool rw.bit

/-- Format WB: `oooooooo00000000dddddddd00000000` (30_encoding R84). -/
def encodeWB (op : Byte) (d8 : Byte) : Word := op ++ 0#8 ++ d8 ++ 0#8

/-- Format RB: `oooooooo00000000000000000000000k` (30_encoding R85). -/
def encodeRB (op : Byte) (ack : Bool) : Word := op ++ 0#23 ++ BitVec.ofBool ack

/-- Format SA: `oooooooo0aaaaaaa0000000000000000` (30_encoding R86). -/
def encodeSA (op : Byte) (a7 : Addr7) : Word := op ++ 0#1 ++ a7 ++ 0#16

/-- The word of a command: its opcode in its format (30_encoding R81 to R87). -/
def encode (i : Instr) : Word :=
  match i with
  | .masterWriteBuf a7 m | .masterReadBuf a7 m => encodeBUF i.opcode a7 m
  | .masterSendStart a7 rw | .masterSendRestart a7 rw => encodeSR i.opcode a7 rw
  | .masterWriteByte d8 => encodeWB i.opcode d8
  | .masterReadByte ack => encodeRB i.opcode ack
  | .slaveSetAddress a7 => encodeSA i.opcode a7
  | .init | .enable | .start | .stop | .masterSendStop | .masterStatus | .masterClearStatus
  | .masterGetReadBufSize | .masterGetWriteBufSize | .masterClearReadBuf | .masterClearWriteBuf
  | .slaveInitReadBuf | .slaveInitWriteBuf | .slaveStatus | .slaveClearReadStatus
  | .slaveClearWriteStatus | .slaveGetReadBufSize | .slaveGetWriteBufSize | .slaveClearReadBuf
  | .slaveClearWriteBuf => encodeN i.opcode

/-- The host's view of the decoder: the command that the first `nbits` bits of `w` are, bits above
them zero, in the configuration of `State.reset`. A command is one 32-bit word, so bit n of `w` is
bit n of the command word. -/
def decodeTableWord (nbits w : Nat) : Option Instr :=
  match decode Config.standard (BitVec.ofNat 32 (w % 2 ^ nbits)) with
  | .ok i => some i
  | .error _ => none

end Sys2Proof
end

