-- ==== Sys2Proof/Machine/State.lean ====
section
/-! DEFINITION. The state of the core (spec 10_state), its inputs and outputs, the reasons a step can
stop, and the state after reset. Plain data throughout. -/

namespace Sys2Proof.Machine

/-- BusState (10_state R30): exactly one active value at a time. -/
inductive BusState where
  /-- 0 Idle: no transfer -/
  | idle
  /-- 1 MasterWriteAddress -/
  | mwa
  /-- 2 MasterWriteData -/
  | mwd
  /-- 3 MasterReadAddress -/
  | mra
  /-- 4 MasterReadData -/
  | mrd
  /-- 5 MasterHalted: owns the bus, no Stop sent -/
  | mh
  /-- 6 SlaveWriteData: addressed for write, receiving -/
  | swd
  /-- 7 SlaveReadData: addressed for read, transmitting -/
  | srd
  deriving DecidableEq, Repr

/-- Result codes of CMDSTAT.CODE (30_encoding R97). Values 8 to 255 are never written. -/
inductive ResultCode where
  | noError
  | busBusy
  | notReady
  | lbNak
  | arbLost
  | startAborted
  | timeout
  | illegal
  deriving DecidableEq, Repr

/-- MSTAT, the source's MasterStatus (10_state R37). -/
structure MStat where
  rdCmplt : Bool
  wrCmplt : Bool
  /-- XFER_INP, the live busy bit -/
  xferInp : Bool
  xferHalt : Bool
  errShortXfer : Bool
  errAddrNak : Bool
  errArbLost : Bool
  errXfer : Bool
  deriving DecidableEq, Repr

/-- MSTAT = 0x00. -/
def MStat.zero : MStat := ⟨false, false, false, false, false, false, false, false⟩

/-- SSTAT, the source's SlaveStatus (10_state R38). Bits 3 and 7 do not exist and read 0. -/
structure SStat where
  rdCmplt : Bool
  rdBusy : Bool
  rdOvfl : Bool
  wrCmplt : Bool
  wrBusy : Bool
  wrOvfl : Bool
  deriving DecidableEq, Repr

/-- SSTAT = 0x00. -/
def SStat.zero : SStat := ⟨false, false, false, false, false, false⟩

/-- CMDSTAT (10_state R25). -/
structure CmdStat where
  busy : Bool
  ovr : Bool
  wstop : Bool
  code : ResultCode
  lastop : Byte
  deriving DecidableEq, Repr

/-- MMODE, the descriptor of the latest buffered transfer (10_state R40). -/
structure MMode where
  mode : TransferMode
  dir : Dir
  addr : Addr7
  deriving DecidableEq, Repr

/-- A TransferBuffer descriptor (10_state R43). -/
structure Desc where
  ptr : Word
  cap : Count
  idx : Count
  deriving DecidableEq, Repr

/-- The empty descriptor. -/
def Desc.zero : Desc := ⟨0, 0, 0⟩

/-- The names of the four descriptors (10_state R43). -/
inductive BufId where
  | mrd
  | mwr
  | srd
  | swr
  deriving DecidableEq, Repr

/-- Bus actions (30_encoding R95). -/
inductive Action where
  | start (b : Byte)
  | restart (b : Byte)
  | stop
  | tx (b : Byte)
  | rx
  | ack
  | nak
  | release
  deriving DecidableEq, Repr

/-- One entry of the memory history (10_state R48 b, 20_memory R61). -/
inductive MemAccess where
  | read (addr : Nat)
  | write (addr : Nat) (v : Byte)
  deriving DecidableEq, Repr

/-- Buffer memory: (address, byte) pairs, addresses strictly rising, no entry equal to what an
unlisted address reads as. -/
abbrev Memory := List Host.Cell

/-- A snapshot after masking, its bits by name (30_encoding R93, R94). -/
structure Snap where
  bc : Bool
  saddr : Bool
  nak : Bool
  lostArb : Bool
  stop : Bool
  startAbort : Bool
  timeout : Bool
  rx : Byte
  deriving DecidableEq, Repr

/-- The width of a host CSR access (20_memory R64). -/
inductive AccessWidth where
  | bits8
  | bits16
  | bits32
  deriving DecidableEq, Repr

/-- How the launch memory answers the one access an event step may make (20_memory R66, R68). -/
inductive PortReply where
  /-- the access is admitted -/
  | grant
  /-- the access is refused: the engine is stuck -/
  | refuse
  /-- the byte belongs to a device with read side effects -/
  | device
  deriving DecidableEq, Repr

/-- What one agent does in one step (00_scope R5). -/
inductive AgentStep where
  /-- the host writes a CSR -/
  | csrWrite (addr : Word) (width : AccessWidth) (v : Word)
  /-- the host reads a CSR -/
  | csrRead (addr : Word) (width : AccessWidth)
  /-- the bus environment (or the watchdog) offers a snapshot -/
  | snapshot (e : SnapWord) (reply : PortReply)
  /-- the host stores a byte of buffer memory by its own path -/
  | memStore (addr : Word) (v : Byte)
  /-- the host loads a byte of buffer memory by its own path -/
  | memLoad (addr : Word)
  /-- the reset input (70 R300) -/
  | reset
  deriving DecidableEq, Repr

/-- One input: an agent's step, and the BUS_BUSY level during it (10_state R36). -/
structure Input where
  busBusy : Bool
  act : AgentStep
  deriving DecidableEq, Repr

/-- The reasons the machine stops with no next state. -/
inductive Fault where
  /-- Raised by an event step whose memory access the launch memory refuses: the engine is stuck and
  the snapshot is not consumed (20_memory R68). Safe: no claim can rest on a state after it. -/
  | memoryRefused
  /-- Raised by an access to a byte address of 2^AW or more, which does not exist (20_memory R60). The
  core itself never makes one (R62), so from a state of the invariant only a host access can raise
  it. Safe. -/
  | outsideBufferSpace
  deriving DecidableEq, Repr

/-- The reasons the model gives a step no meaning. -/
inductive Refusal where
  /-- Raised by an arm of `exec` whose command has no meaning yet. Safe. -/
  | notModelled (mnemonic : String)
  /-- Raised by a host CSR access that is not an aligned 32-bit word (20_memory R64, 93 I6). Safe. -/
  | undefinedCsrAccess
  /-- Raised by a host CSR access outside the core's window (10_state R21): not the core's. Safe. -/
  | outsideCsrWindow
  /-- Raised by an event step whose buffer byte is a device's (20_memory R66, 93 I7). Safe. -/
  | deviceBuffer
  deriving DecidableEq, Repr

/-- Why an event step has no ordinary result: a desync, which drops the step's writes and actions
(40 R102), or a stop. -/
inductive Abort where
  | desync
  | stuck (r : Fault)
  | refuse (r : Refusal)
  deriving DecidableEq, Repr

/-- The state of the machine: the elements of 10_state R20, the buffer memory, the histories of R48,
the configuration, and the inputs. INVENTORY.md lists every field. -/
structure State where
  /-- the parameters of 00_scope R4; no step writes them -/
  cfg : Config
  /-- BusState (R30) -/
  bus : BusState
  /-- EN (R31) -/
  en : Bool
  /-- STOP_IE (R33) -/
  stopIe : Bool
  /-- INITED (R32) -/
  inited : Bool
  /-- FATAL (R34) -/
  fatal : Bool
  /-- DESYNC (R35) -/
  desync : Bool
  /-- MSTAT (R37) -/
  mstat : MStat
  /-- SSTAT (R38) -/
  sstat : SStat
  /-- SADDR (R39) -/
  saddr : Addr7
  /-- MMODE (R40) -/
  mmode : MMode
  /-- DATA (R41) -/
  data : Byte
  /-- CLKDIV (R42) -/
  clkdiv : BitVec 16
  /-- the master-read descriptor (R43) -/
  mrd : Desc
  /-- the master-write descriptor (R43) -/
  mwr : Desc
  /-- the slave-read descriptor (R43) -/
  srd : Desc
  /-- the slave-write descriptor (R43) -/
  swr : Desc
  /-- PTR (R27) -/
  ptr : Word
  /-- CNT (R28) -/
  cnt : Count
  /-- CMDSTAT (R25) -/
  cmdstat : CmdStat
  /-- the latch of MARG (R44), written only at manual command issue; MARG itself is 0 while BUSY=0 (log 11) -/
  marg : Bool
  /-- RDATA (R26) -/
  rdata : Word
  /-- buffer memory (20_memory R60 b) -/
  mem : Memory
  /-- the action history (R48 a), oldest first -/
  actions : List Action
  /-- the memory history (R48 b), oldest first -/
  memHist : List MemAccess
  /-- the BUS_BUSY level of the present step (R36) -/
  busBusy : Bool
  /-- the inputs not taken yet, next first (00_scope R6; log 3) -/
  inputs : List Input
  /-- the data the host's latest read returned (log 19) -/
  hostData : Word
  /-- for bytes of a buffer the engine owns, what the host's racing stores wrote over (R70; log 9) -/
  races : List Host.Cell
  /-- how many free values have been drawn (log 9) -/
  draws : Nat
  deriving DecidableEq, Repr

/-- The outcome of a step of this machine. -/
abbrev Result := Host.Outcome State Fault Refusal

/-- The reset values of 10_state R47, for any configuration. Memory lists nothing, no input waits, and
the model's own fields hold the values of log 4, log 9 and log 19. -/
def State.resetWith (c : Config) : State where
  cfg := c
  bus := .idle
  en := false
  stopIe := false
  inited := false
  fatal := false
  desync := false
  mstat := .zero
  sstat := .zero
  saddr := c.defaultSaddr
  mmode := ⟨⟨false, false⟩, .write, 0⟩
  data := 0
  clkdiv := c.clkdivDefault
  mrd := .zero
  mwr := .zero
  srd := .zero
  swr := .zero
  ptr := 0
  cnt := 0
  cmdstat := ⟨false, false, false, .noError, 0⟩
  marg := false
  rdata := 0
  mem := []
  actions := []
  memHist := []
  busBusy := false
  inputs := []
  hostData := 0
  races := []
  draws := 0

/-- The machine right after reset, in the default configuration of 00_scope R4. -/
def State.reset : State := State.resetWith Config.standard

end Sys2Proof.Machine
end

