-- ==== Sys2Proof/Machine/Flags.lean ====
section
/-! DEFINITION. The status registers MSTAT and SSTAT: their bit layout and every way a rule changes
them, and the bit layout of BusState and CODE (10_state R30, R37, R38; 30_encoding R97). -/

namespace Sys2Proof.Machine

/-- BusState's encoding (10_state R30). -/
def BusState.code : BusState → BitVec 3
  | .idle => 0
  | .mwa => 1
  | .mwd => 2
  | .mra => 3
  | .mrd => 4
  | .mh => 5
  | .swd => 6
  | .srd => 7

/-- `isMaster(s)` of 00_scope R10. -/
def BusState.isMaster : BusState → Bool
  | .mwa | .mwd | .mra | .mrd | .mh => true
  | .idle | .swd | .srd => false

/-- CODE values (30_encoding R97). -/
def ResultCode.toByte : ResultCode → Byte
  | .noError => 0
  | .busBusy => 1
  | .notReady => 2
  | .lbNak => 3
  | .arbLost => 4
  | .startAborted => 5
  | .timeout => 6
  | .illegal => 7

/-- MSTAT as a byte, bit 7 first (10_state R37). -/
def MStat.toByte (m : MStat) : Byte :=
  BitVec.ofBool m.errXfer ++ BitVec.ofBool m.errArbLost ++ BitVec.ofBool m.errAddrNak ++
    BitVec.ofBool m.errShortXfer ++ BitVec.ofBool m.xferHalt ++ BitVec.ofBool m.xferInp ++
    BitVec.ofBool m.wrCmplt ++ BitVec.ofBool m.rdCmplt

/-- SSTAT as a byte, bit 7 first; bits 7 and 3 read 0 (10_state R38). -/
def SStat.toByte (m : SStat) : Byte :=
  0#1 ++ BitVec.ofBool m.wrOvfl ++ BitVec.ofBool m.wrBusy ++ BitVec.ofBool m.wrCmplt ++
    0#1 ++ BitVec.ofBool m.rdOvfl ++ BitVec.ofBool m.rdBusy ++ BitVec.ofBool m.rdCmplt

/-- `MSTAT AND 0x04`: every sticky bit cleared, XFER_INP kept (41 R164). -/
def MStat.clearSticky (m : MStat) : MStat := { MStat.zero with xferInp := m.xferInp }

/-- The completion bit of a direction (40 R113, R119). -/
def MStat.complete (d : Dir) (m : MStat) : MStat :=
  match d with
  | .write => { m with wrCmplt := true }
  | .read => { m with rdCmplt := true }

/-- Arming: XFER_INP←1, no sticky bit cleared (41 R160). -/
def MStat.arm (m : MStat) : MStat := { m with xferInp := true }

/-- The Stop of a transfer: completion bit of the direction, XFER_INP←0 (40 R119). -/
def MStat.finishStop (d : Dir) (m : MStat) : MStat := { m.complete d with xferInp := false }

/-- Halted entered: XFER_HALT, completion bit of the direction, XFER_INP←0 (40 R113). -/
def MStat.finishHalt (d : Dir) (m : MStat) : MStat :=
  { m.complete d with xferHalt := true, xferInp := false }

/-- Lost arbitration (`lost`) or Start abort (40 R108). -/
def MStat.loseBus (lost : Bool) (m : MStat) : MStat :=
  { m with errXfer := true, errArbLost := m.errArbLost || lost, xferInp := false }

/-- Address NAK (40 R112). -/
def MStat.nakAddr (m : MStat) : MStat := { m with errAddrNak := true, errXfer := true }

/-- Data NAK before the buffer is exhausted (40 R116). -/
def MStat.shorten (m : MStat) : MStat := { m with errShortXfer := true, errXfer := true }

/-- A transfer in flight is abandoned by a timeout or by STOP: ERR_XFER if it was in flight, XFER_INP←0
(40 R104, 44_lifecycle R254). -/
def MStat.abandon (m : MStat) : MStat :=
  { m with errXfer := m.errXfer || m.xferInp, xferInp := false }

/-- SLAVE_CLEAR_READ_STATUS: bits 0 and 2 (43 R225). -/
def SStat.clearRead (m : SStat) : SStat := { m with rdCmplt := false, rdOvfl := false }

/-- SLAVE_CLEAR_WRITE_STATUS: bits 4 and 6 (43 R226). -/
def SStat.clearWrite (m : SStat) : SStat := { m with wrCmplt := false, wrOvfl := false }

/-- Both busy bits cleared, no completion bit written (40 R104, 44_lifecycle R254). -/
def SStat.dropBusy (m : SStat) : SStat := { m with rdBusy := false, wrBusy := false }

/-- Slave read completion (40 R129). -/
def SStat.endRead (m : SStat) : SStat := { m with rdCmplt := true, rdBusy := false }

/-- Slave write completion (40 R128). -/
def SStat.endWrite (m : SStat) : SStat := { m with wrCmplt := true, wrBusy := false }

end Sys2Proof.Machine
end

