-- ==== Sys2Proof/Machine/Operands.lean ====
section
/-! DEFINITION. Operand forms: the address byte, buffer operands and effective addresses, the widths of
00_scope R4, and the reading of a snapshot word (20_memory R62, R74; 30_encoding R90, R93, R94). -/

namespace Sys2Proof.Machine

/-- SENTINEL, the byte a slave transmits once its read buffer is exhausted (00_scope R4, 40 R134). -/
def sentinel : Byte := 0xFF

/-- `addrByte(a7, rw)`: a7 in bits 7..1, rw in bit 0, 1 for read (30_encoding R90). -/
def addrByte (a7 : Addr7) (rw : Dir) : Byte := a7 ++ BitVec.ofBool rw.bit

/-- `a[7:1]` of a received address byte (40 R130). -/
def addrPart (a : Byte) : Addr7 := a.extractLsb' 1 7

/-- `a[0]` of a received address byte: the direction the remote master asks for (40 R130). -/
def dirPart (a : Byte) : Dir := Dir.ofBit (a.getLsbD 0)

/-- The low AW bits (10_state R23, R27). -/
def truncPtr (c : Config) (v : Word) : Word := BitVec.ofNat 32 (v.toNat % 2 ^ c.aw)

/-- The low CNT_W bits (10_state R23, R28). -/
def truncCnt (c : Config) (v : Word) : Count := BitVec.ofNat 16 (v.toNat % 2 ^ c.cntW)

/-- `idx + 1`, computed in CNT_W bits (00_scope R9). It never wraps below a capacity (20_memory R74). -/
def incIdx (c : Config) (i : Count) : Count := BitVec.ofNat 16 ((i.toNat + 1) % 2 ^ c.cntW)

/-- `PTR + CNT ≤ 2^AW`, the sum in AW+1 bits (41 R160, 43 R222, R223). -/
def bufferFits (c : Config) (p : Word) (n : Count) : Bool := decide (p.toNat + n.toNat ≤ 2 ^ c.aw)

/-- The effective address `X.ptr + X.idx` of a buffer access (20_memory R62). -/
def Desc.addr (d : Desc) : Nat := d.ptr.toNat + d.idx.toNat

/-- `X.idx < X.cap`: room or bytes remain. -/
def Desc.more (d : Desc) : Bool := decide (d.idx.toNat < d.cap.toNat)

/-- Whether an address lies in the buffer of a descriptor. -/
def Desc.covers (d : Desc) (a : Nat) : Bool :=
  decide (d.ptr.toNat ≤ a) && decide (a < d.ptr.toNat + d.cap.toNat)

/-- A snapshot word by its bits (30_encoding R93), masked (R94): LOST_ARB and START_ABORT read 0
without MULTI_MASTER, TIMEOUT reads 0 without TIMEOUT_EN, bit 7 is ignored. -/
def snapOf (c : Config) (e : SnapWord) : Snap where
  bc := e.getLsbD 0
  saddr := e.getLsbD 1
  nak := e.getLsbD 2
  lostArb := e.getLsbD 3 && c.multiMaster
  stop := e.getLsbD 4
  startAbort := e.getLsbD 5 && c.multiMaster
  timeout := e.getLsbD 6 && c.timeoutEn
  rx := e.extractLsb' 8 8

/-- The opcodes of the manual commands, as LASTOP names them (42 R196, R198, R201). -/
def opSendStart : Byte := 0x12
/-- See `opSendStart`. -/
def opSendRestart : Byte := 0x13
/-- See `opSendStart`. -/
def opSendStop : Byte := 0x14
/-- See `opSendStart`. -/
def opWriteByte : Byte := 0x15
/-- See `opSendStart`. -/
def opReadByte : Byte := 0x16

end Sys2Proof.Machine
end

