-- ==== Sys2Proof/Machine/Ops.lean ====
section
/-! DEFINITION. The shared operations: buffer memory and its port, descriptors, emitting an action,
finishing and pending commands, and the core's one fault (desync) with the recovery from it. The core
has no other exception to take and none to return from (60_exceptions R270, R280, R281). -/

namespace Sys2Proof.Machine

/-! ### Buffer memory -/

/-- What an unlisted address reads as. DESIGN CHOICE (log 6, unsafe): the spec gives no contents; its
test vectors take bytes not listed as 0x00. -/
def unlistedByte : Byte := 0

/-- The byte at an address. -/
def Memory.read : Memory → Nat → Byte
  | [], _ => unlistedByte
  | (b, v) :: rest, a => if b = a then v else Memory.read rest a

/-- A memory with one byte replaced, in canonical form. -/
def Memory.write : Memory → Nat → Byte → Memory
  | [], a, v => if v = unlistedByte then [] else [(a, v)]
  | (b, w) :: rest, a, v =>
    if a < b then (if v = unlistedByte then (b, w) :: rest else (a, v) :: (b, w) :: rest)
    else if a = b then (if v = unlistedByte then rest else (a, v) :: rest)
    else (b, w) :: Memory.write rest a v

/-- The canonical form: addresses strictly rising, no entry equal to the unlisted byte. -/
def Memory.wf : Memory → Bool
  | [] => true
  | (a, v) :: rest => v != unlistedByte && rest.all (fun c => decide (a < c.1)) && Memory.wf rest

/-! ### Descriptors -/

/-- The descriptor of a name (10_state R43). -/
def State.buf (s : State) : BufId → Desc
  | .mrd => s.mrd
  | .mwr => s.mwr
  | .srd => s.srd
  | .swr => s.swr

/-- Replace a descriptor. -/
def State.setBuf (s : State) (b : BufId) (d : Desc) : State :=
  match b with
  | .mrd => { s with mrd := d }
  | .mwr => { s with mwr := d }
  | .srd => { s with srd := d }
  | .swr => { s with swr := d }

/-- Replace the index of a descriptor; ptr and cap are kept. -/
def State.setIdx (s : State) (b : BufId) (i : Count) : State :=
  s.setBuf b { s.buf b with idx := i }

/-- `X.idx <- X.idx + 1`. -/
def State.bumpIdx (s : State) (b : BufId) : State :=
  s.setIdx b (incIdx s.cfg (s.buf b).idx)

/-! ### Ownership and races (20_memory R70, 70 R307) -/

/-- Which buffer a transfer of a direction uses (41 R160). -/
def masterBuf : Dir → BufId
  | .write => .mwr
  | .read => .mrd

/-- The buffers the engine owns: MWR or MRD while a transfer is in flight, SWR or SRD while addressed. -/
def State.owned (s : State) : List BufId :=
  (if s.mstat.xferInp then [masterBuf s.mmode.dir] else []) ++
    match s.bus with
    | .swd => [.swr]
    | .srd => [.srd]
    | .idle | .mwa | .mwd | .mra | .mrd | .mh => []

/-- The buffers the engine stores into. -/
def BufId.engineWrites : BufId → Bool
  | .mrd | .swr => true
  | .mwr | .srd => false

/-- The engine owns the byte at an address. -/
def State.owns (s : State) (a : Nat) : Bool := s.owned.any fun b => (s.buf b).covers a

/-- The engine owns the byte at an address and may write it. -/
def State.mayWrite (s : State) (a : Nat) : Bool :=
  s.owned.any fun b => b.engineWrites && (s.buf b).covers a

/-- The bytes that race with the one memory holds at an address. -/
def State.raceAlts (s : State) (a : Nat) : List Byte :=
  (s.races.filter fun c => decide (c.1 = a)).map fun c => c.2

/-- One of the racing bytes, by the next free value; no race, no choice (log 9). -/
def State.pick (s : State) (b : Byte) (alts : List Byte) : Byte :=
  match alts with
  | [] => b
  | x :: rest => (b :: x :: rest).getD (Config.racePick s.draws % (rest.length + 2)) b

/-- The draw counter after a choice among racing bytes. -/
def State.drawsAfter (s : State) (alts : List Byte) : Nat :=
  match alts with
  | [] => s.draws
  | _ :: _ => s.draws + 1

/-- Races end when the engine no longer owns the byte. -/
def State.dropSettledRaces (s : State) : State :=
  { s with races := s.races.filter fun c => s.owns c.1 }

/-! ### The memory master port (20_memory R61, R62, R66, R68) -/

/-- Why the port gives no answer at an address, if it gives none. -/
def State.portStop (s : State) (r : PortReply) (a : Nat) : Option Abort :=
  match r with
  | .refuse => some (.stuck .memoryRefused)
  | .device => some (.refuse .deviceBuffer)
  | .grant => if a < 2 ^ s.cfg.aw then none else some (.stuck .outsideBufferSpace)

/-- The byte the engine reads at an address: memory's, or either byte of a race. -/
def State.portByte (s : State) (a : Nat) : Byte := s.pick (Memory.read s.mem a) (s.raceAlts a)

/-- `MemRead(addr, 1)`: the byte, and the access in the memory history. -/
def State.memRead (s : State) (r : PortReply) (a : Nat) : Except Abort (Byte × State) :=
  match s.portStop r a with
  | some e => .error e
  | none =>
    .ok (s.portByte a,
      { s with memHist := s.memHist ++ [.read a], draws := s.drawsAfter (s.raceAlts a) })

/-- What races with a byte the engine stores: nothing, or all that raced there and what memory holds. -/
def State.storeAlts (s : State) (a : Nat) : List Byte :=
  match s.raceAlts a with
  | [] => []
  | x :: rest => Memory.read s.mem a :: x :: rest

/-- `MemWrite(addr, 1, v)`: the byte stored, and the access in the memory history. -/
def State.memWrite (s : State) (r : PortReply) (a : Nat) (v : Byte) : Except Abort State :=
  match s.portStop r a with
  | some e => .error e
  | none =>
    .ok { s with
      mem := Memory.write s.mem a (s.pick v (s.storeAlts a))
      memHist := s.memHist ++ [.write a v]
      draws := s.drawsAfter (s.storeAlts a) }

/-! ### Actions and command results -/

/-- `emit A` (00_scope R9, 30_encoding R96). -/
def State.emit (s : State) (a : Action) : State := { s with actions := s.actions ++ [a] }

/-- `finish(code)`: CMDSTAT.CODE ← code (44_lifecycle R250). -/
def State.finish (s : State) (c : ResultCode) : State :=
  { s with cmdstat := { s.cmdstat with code := c } }

/-- `go_pending(marg, wstop)` (42 R190). -/
def State.goPending (s : State) (marg wstop : Bool) : State :=
  { s with marg := marg, cmdstat := { s.cmdstat with wstop := wstop, busy := true } }

/-- MARG as the rules read it: the latched bit while a command is pending, else 0 (10_state R44, 70 R302;
log 11). -/
def State.margBit (s : State) : Bool := s.cmdstat.busy && s.marg

/-- `complete(code)` (42 R190). BUSY ← 0 is what makes MARG 0: the latch itself is written only at issue
(10_state R44, 40 R142; log 11). -/
def State.complete (s : State) (c : ResultCode) : State :=
  { s with cmdstat := { s.cmdstat with busy := false, wstop := false, code := c } }

/-! ### The desync fault, the recovery from it, and reset -/

/-- The effect of `desync()` on the state before the step (40 R106, 60 R275, R276): FATAL or DESYNC, and
nothing else. DESIGN CHOICE (log 8): a next state. -/
def State.takeDesync (s : State) : State :=
  if s.cfg.timeoutEn then { s with desync := true } else { s with fatal := true }

/-- `timeout_recover()` (40 R104). -/
def State.timeoutRecover (s : State) : State :=
  let t := { s with
    mstat := s.mstat.abandon
    sstat := s.sstat.dropBusy
    stopIe := false
    desync := false
    bus := .idle }.emit .release
  if s.cmdstat.busy then
    { t with cmdstat := { s.cmdstat with busy := false, wstop := false, code := .timeout } }
  else t

/-- Hardware reset (70 R300, R301): every element at its reset value and both histories empty, with no
action emitted. Buffer memory stays; so do the configuration and what is outside the core. -/
def State.hardReset (s : State) : State :=
  { State.resetWith s.cfg with
    mem := s.mem
    busBusy := s.busBusy
    inputs := s.inputs
    hostData := s.hostData
    draws := s.draws }

/-- The outcome of an event step begun in `s`: a desync drops every write and action of the step (40
R102), and a refused access leaves no next state (20_memory R68). -/
def closeStep (s : State) (r : Except Abort State) : Result :=
  match r with
  | .ok t => .next t
  | .error .desync => .next s.takeDesync
  | .error (.stuck f) => .fault f
  | .error (.refuse q) => .refused q

end Sys2Proof.Machine
end

