-- ==== Sys2Proof/Machine/Lifecycle.lean ====
section
/-! DEFINITION. The lifecycle commands INIT, ENABLE, START, STOP and the illegal word (44_lifecycle R251
to R255). -/

namespace Sys2Proof.Machine

/-- `init_effects()` (44_lifecycle R251). PTR, CNT, RDATA, EN and FATAL are not written. -/
def State.initEffects (s : State) : State :=
  { s with
    mrd := .zero
    mwr := .zero
    srd := .zero
    swr := .zero
    mstat := .zero
    sstat := .zero
    mmode := ⟨⟨false, false⟩, .write, 0⟩
    data := 0
    bus := .idle
    stopIe := false
    desync := false
    cmdstat := { s.cmdstat with ovr := false }
    saddr := s.cfg.defaultSaddr
    clkdiv := s.cfg.clkdivDefault
    inited := true }

/-- INIT (44_lifecycle R251): refused while EN=1. -/
def execInit (s : State) : Result :=
  if s.en then .next (s.finish .notReady) else .next (s.initEffects.finish .noError)

/-- ENABLE (44_lifecycle R252). -/
def execEnable (s : State) : Result :=
  .next ({ s with en := true }.finish .noError)

/-- START (44_lifecycle R253): INIT's effects once, and only while EN=0. -/
def execStart (s : State) : Result :=
  let t := if !s.inited && !s.en then s.initEffects else s
  .next ({ t with en := true }.finish .noError)

/-- STOP (44_lifecycle R254): abandons any transfer, with no completion bit and no bus Stop. -/
def execStop (s : State) : Result :=
  let t := if s.bus.isMaster then s.emit .release else s
  .next ({ t with
    mstat := s.mstat.abandon
    sstat := s.sstat.dropBusy
    stopIe := false
    desync := false
    bus := .idle
    en := false }.finish .noError)

/-- `illegal()` (44_lifecycle R255). -/
def State.illegalWord (s : State) : State := s.finish .illegal

end Sys2Proof.Machine
end

