-- ==== Sys2Proof/Machine/Buffered.lean ====
section
/-! DEFINITION. The master buffered, status and buffer commands (41_master_buffered R160 to R168). Each
completes in its issue step. -/

namespace Sys2Proof.Machine

/-- The first refusal of `buf_arm`, in the order the checks are written (41 R160, D25). -/
def bufArmRefusal (mode : TransferMode) (s : State) : Option ResultCode :=
  if !s.en then some .notReady
  else if s.bus ≠ .idle ∧ s.bus ≠ .mh then some .notReady
  else if (s.bus = .idle ∧ mode.repeatStart) ∨ (s.bus = .mh ∧ !mode.repeatStart) then some .notReady
  else if s.ptr = 0 ∨ !bufferFits s.cfg s.ptr s.cnt then some .notReady
  else if s.bus = .idle ∧ s.busBusy then some .busBusy
  else none

/-- The bus state in which the address byte of a direction is awaited (41 R160, 42 R191). -/
def addressState : Dir → BusState
  | .write => .mwa
  | .read => .mra

/-- What arming writes once every check has passed (41 R160). -/
def State.armed (s : State) (dir : Dir) (a7 : Addr7) (mode : TransferMode) : State :=
  let t := s.setBuf (masterBuf dir) ⟨s.ptr, s.cnt, 0⟩
  let b := addrByte a7 dir
  let u := { t with mmode := ⟨mode, dir, a7⟩, mstat := s.mstat.arm, data := b }
  let v := if s.bus = .idle then u.emit (.start b) else u.emit (.restart b)
  { v with bus := addressState dir }

/-- `buf_arm(dir)` (41 R160). A refused command changes nothing but CODE. -/
def bufArm (dir : Dir) (a7 : Addr7) (mode : TransferMode) (s : State) : State :=
  match bufArmRefusal mode s with
  | some code => s.finish code
  | none => (s.armed dir a7 mode).finish .noError

/-- MASTER_WRITE_BUF (41 R161). -/
def execMasterWriteBuf (a7 : Addr7) (mode : TransferMode) (s : State) : Result :=
  .next (bufArm .write a7 mode s)

/-- MASTER_READ_BUF (41 R162). -/
def execMasterReadBuf (a7 : Addr7) (mode : TransferMode) (s : State) : Result :=
  .next (bufArm .read a7 mode s)

/-- MASTER_STATUS (41 R163). -/
def execMasterStatus (s : State) : Result :=
  .next ({ s with rdata := s.mstat.toByte.setWidth 32 }.finish .noError)

/-- MASTER_CLEAR_STATUS (41 R164): returns the status before clearing. -/
def execMasterClearStatus (s : State) : Result :=
  .next ({ s with rdata := s.mstat.toByte.setWidth 32, mstat := s.mstat.clearSticky }.finish .noError)

/-- The size accessors: `RDATA <- zext_32(X.idx)` (41 R165, R166; 43 R227, R228). -/
def State.returnSize (s : State) (b : BufId) : State :=
  { s with rdata := (s.buf b).idx.setWidth 32 }.finish .noError

/-- The buffer-clear accessors: `X.idx <- 0` (41 R167, R168; 43 R229, R230). -/
def State.clearIdx (s : State) (b : BufId) : State := (s.setIdx b 0).finish .noError

/-- MASTER_GET_READ_BUF_SIZE (41 R165). -/
def execMasterGetReadBufSize (s : State) : Result := .next (s.returnSize .mrd)

/-- MASTER_GET_WRITE_BUF_SIZE (41 R166). -/
def execMasterGetWriteBufSize (s : State) : Result := .next (s.returnSize .mwr)

/-- MASTER_CLEAR_READ_BUF (41 R167). -/
def execMasterClearReadBuf (s : State) : Result := .next (s.clearIdx .mrd)

/-- MASTER_CLEAR_WRITE_BUF (41 R168). -/
def execMasterClearWriteBuf (s : State) : Result := .next (s.clearIdx .mwr)

end Sys2Proof.Machine
end

