-- ==== Sys2Proof/Machine/Manual.lean ====
section
/-! DEFINITION. The issue step of the master manual commands (42_master_manual R190 to R195). Their
completion is in Machine/ManualWait.lean. -/

namespace Sys2Proof.Machine

/-- `manual_pre()` passes (42 R190). -/
def State.manualReady (s : State) : Bool := s.en && !s.mstat.xferInp

/-- The states from which a manual Restart or Stop may start (42 R192, R193, D61). -/
def BusState.holdsBus : BusState → Bool
  | .mwd | .mrd | .mh => true
  | .idle | .mwa | .mra | .swd | .srd => false

/-- What a manual Start or Restart writes once its checks have passed (42 R191, R192): DATA, the action
`act`, the address state, pending with MARG = RW. -/
def State.manualAddress (s : State) (rw : Dir) (b : Byte) (act : Action) : State :=
  { ({ s with data := b }.emit act) with bus := addressState rw }.goPending rw.bit false

/-- MASTER_SEND_START, issue (42 R191). -/
def execMasterSendStart (a7 : Addr7) (rw : Dir) (s : State) : Result :=
  if !s.manualReady then .next (s.finish .notReady)
  else if s.bus ≠ .idle then .next (s.finish .notReady)
  else if s.busBusy then .next (s.finish .busBusy)
  else .next (s.manualAddress rw (addrByte a7 rw) (.start (addrByte a7 rw)))

/-- MASTER_SEND_RESTART, issue (42 R192). -/
def execMasterSendRestart (a7 : Addr7) (rw : Dir) (s : State) : Result :=
  if !s.manualReady then .next (s.finish .notReady)
  else if !s.bus.holdsBus then .next (s.finish .notReady)
  else .next (s.manualAddress rw (addrByte a7 rw) (.restart (addrByte a7 rw)))

/-- MASTER_SEND_STOP, issue (42 R193). -/
def execMasterSendStop (s : State) : Result :=
  if !s.manualReady then .next (s.finish .notReady)
  else if !s.bus.holdsBus then .next (s.finish .notReady)
  else .next ((s.emit .stop).goPending false true)

/-- MASTER_WRITE_BYTE, issue (42 R194). -/
def execMasterWriteByte (d8 : Byte) (s : State) : Result :=
  if !s.manualReady then .next (s.finish .notReady)
  else if s.bus ≠ .mwd then .next (s.finish .notReady)
  else .next (({ s with data := d8 }.emit (.tx d8)).goPending false false)

/-- MASTER_READ_BYTE, issue (42 R195). -/
def execMasterReadByte (ack : Bool) (s : State) : Result :=
  if !s.manualReady then .next (s.finish .notReady)
  else if s.bus ≠ .mrd then .next (s.finish .notReady)
  else .next ((s.emit .rx).goPending ack false)

end Sys2Proof.Machine
end

