-- ==== Sys2Proof/Machine/Slave.lean ====
section
/-! DEFINITION. The slave commands (43_slave_api R220 to R230). None is refused for the state (R220). -/

namespace Sys2Proof.Machine

/-- SLAVE_SET_ADDRESS (43 R221). -/
def execSlaveSetAddress (a7 : Addr7) (s : State) : Result :=
  .next ({ s with saddr := a7 }.finish .noError)

/-- The install of a slave buffer (43 R222, R223): refused for a null pointer with a nonzero capacity
and for a buffer past the top of the address space. -/
def State.install (s : State) (b : BufId) : State :=
  if (s.ptr = 0 ∧ s.cnt ≠ 0) ∨ !bufferFits s.cfg s.ptr s.cnt then s.finish .notReady
  else (s.setBuf b ⟨s.ptr, s.cnt, 0⟩).finish .noError

/-- SLAVE_INIT_READ_BUF (43 R222). -/
def execSlaveInitReadBuf (s : State) : Result := .next (s.install .srd)

/-- SLAVE_INIT_WRITE_BUF (43 R223). -/
def execSlaveInitWriteBuf (s : State) : Result := .next (s.install .swr)

/-- SLAVE_STATUS (43 R224). -/
def execSlaveStatus (s : State) : Result :=
  .next ({ s with rdata := s.sstat.toByte.setWidth 32 }.finish .noError)

/-- SLAVE_CLEAR_READ_STATUS (43 R225): returns the status before clearing. -/
def execSlaveClearReadStatus (s : State) : Result :=
  .next ({ s with rdata := s.sstat.toByte.setWidth 32, sstat := s.sstat.clearRead }.finish .noError)

/-- SLAVE_CLEAR_WRITE_STATUS (43 R226): returns the status before clearing. -/
def execSlaveClearWriteStatus (s : State) : Result :=
  .next ({ s with rdata := s.sstat.toByte.setWidth 32, sstat := s.sstat.clearWrite }.finish .noError)

/-- SLAVE_GET_READ_BUF_SIZE (43 R227). -/
def execSlaveGetReadBufSize (s : State) : Result := .next (s.returnSize .srd)

/-- SLAVE_GET_WRITE_BUF_SIZE (43 R228). -/
def execSlaveGetWriteBufSize (s : State) : Result := .next (s.returnSize .swr)

/-- SLAVE_CLEAR_READ_BUF (43 R229). -/
def execSlaveClearReadBuf (s : State) : Result := .next (s.clearIdx .srd)

/-- SLAVE_CLEAR_WRITE_BUF (43 R230). -/
def execSlaveClearWriteBuf (s : State) : Result := .next (s.clearIdx .swr)

end Sys2Proof.Machine
end

