-- ==== Sys2Proof/Machine/Dispatch.lean ====
section
/-! DEFINITION. The dispatch of a decoded command to its meaning: `execute d` of 44_lifecycle R250. -/

namespace Sys2Proof.Machine

def exec (i : Instr) (s : State) : Host.Outcome State Fault Refusal :=
  match i with
  | .init => Sys2Proof.Machine.execInit s
  | .enable => Sys2Proof.Machine.execEnable s
  | .start => Sys2Proof.Machine.execStart s
  | .stop => Sys2Proof.Machine.execStop s
  | .masterWriteBuf a7 mode => Sys2Proof.Machine.execMasterWriteBuf a7 mode s
  | .masterReadBuf a7 mode => Sys2Proof.Machine.execMasterReadBuf a7 mode s
  | .masterSendStart a7 rw => Sys2Proof.Machine.execMasterSendStart a7 rw s
  | .masterSendRestart a7 rw => Sys2Proof.Machine.execMasterSendRestart a7 rw s
  | .masterSendStop => Sys2Proof.Machine.execMasterSendStop s
  | .masterWriteByte d8 => Sys2Proof.Machine.execMasterWriteByte d8 s
  | .masterReadByte ack => Sys2Proof.Machine.execMasterReadByte ack s
  | .masterStatus => Sys2Proof.Machine.execMasterStatus s
  | .masterClearStatus => Sys2Proof.Machine.execMasterClearStatus s
  | .masterGetReadBufSize => Sys2Proof.Machine.execMasterGetReadBufSize s
  | .masterGetWriteBufSize => Sys2Proof.Machine.execMasterGetWriteBufSize s
  | .masterClearReadBuf => Sys2Proof.Machine.execMasterClearReadBuf s
  | .masterClearWriteBuf => Sys2Proof.Machine.execMasterClearWriteBuf s
  | .slaveSetAddress a7 => Sys2Proof.Machine.execSlaveSetAddress a7 s
  | .slaveInitReadBuf => Sys2Proof.Machine.execSlaveInitReadBuf s
  | .slaveInitWriteBuf => Sys2Proof.Machine.execSlaveInitWriteBuf s
  | .slaveStatus => Sys2Proof.Machine.execSlaveStatus s
  | .slaveClearReadStatus => Sys2Proof.Machine.execSlaveClearReadStatus s
  | .slaveClearWriteStatus => Sys2Proof.Machine.execSlaveClearWriteStatus s
  | .slaveGetReadBufSize => Sys2Proof.Machine.execSlaveGetReadBufSize s
  | .slaveGetWriteBufSize => Sys2Proof.Machine.execSlaveGetWriteBufSize s
  | .slaveClearReadBuf => Sys2Proof.Machine.execSlaveClearReadBuf s
  | .slaveClearWriteBuf => Sys2Proof.Machine.execSlaveClearWriteBuf s

end Sys2Proof.Machine
end

