-- ==== Sys2Proof/Machine/Issue.lean ====
section
/-! DEFINITION. Command issue: a host write to CMD (44_lifecycle R250). -/

namespace Sys2Proof.Machine

/-- `CMDSTAT.LASTOP <- w[31:24]` (44_lifecycle R250). -/
def State.recordOp (s : State) (w : Word) : State :=
  { s with cmdstat := { s.cmdstat with lastop := opField w } }

/-- `cmd_write(w)` (44_lifecycle R250): ignored under FATAL, OVR alone under BUSY, else LASTOP and the
command, or ILLEGAL (R255). -/
def cmdWrite (w : Word) (s : State) : Result :=
  if s.fatal then .next s
  else if s.cmdstat.busy then .next { s with cmdstat := { s.cmdstat with ovr := true } }
  else
    match decode s.cfg w with
    | .error _ => .next (s.recordOp w).illegalWord
    | .ok i => exec i (s.recordOp w)

end Sys2Proof.Machine
end

