-- ==== Sys2Proof/Machine/Csr.lean ====
section
/-! DEFINITION. The CSR window: the register map, host reads and host writes (10_state R21 to R29, R36 to
R43, R49; 20_memory R64). -/

namespace Sys2Proof.Machine

/-- CMDSTAT as read (10_state R25). -/
def CmdStat.toWord (k : CmdStat) : Word :=
  0#8 ++ k.lastop ++ k.code.toByte ++ 0#5 ++ BitVec.ofBool k.wstop ++ BitVec.ofBool k.ovr ++
    BitVec.ofBool k.busy

/-- STATE as read, BUS_BUSY sampled at the read (10_state R29). -/
def State.stateWord (s : State) : Word :=
  0#15 ++ BitVec.ofBool s.busBusy ++ 0#3 ++ BitVec.ofBool s.desync ++ BitVec.ofBool s.fatal ++
    BitVec.ofBool s.inited ++ BitVec.ofBool s.stopIe ++ BitVec.ofBool s.en ++ 0#5 ++ s.bus.code

/-- MMODE as read (10_state R40). -/
def MMode.toWord (m : MMode) : Word :=
  0#9 ++ m.addr ++ 0#7 ++ BitVec.ofBool m.dir.bit ++ 0#6 ++ BitVec.ofBool m.mode.noStop ++
    BitVec.ofBool m.mode.repeatStart

/-- The register map as a host read sees it, by window offset (10_state R22, R23). CMD and the reserved
offsets read 0. -/
def readCsr (s : State) (off : Nat) : Word :=
  match off with
  | 0x04 => s.cmdstat.toWord
  | 0x08 => s.rdata
  | 0x0C => s.ptr
  | 0x10 => s.cnt.setWidth 32
  | 0x14 => s.stateWord
  | 0x18 => s.mstat.toByte.setWidth 32
  | 0x1C => s.sstat.toByte.setWidth 32
  | 0x20 => s.saddr.setWidth 32
  | 0x24 => s.mmode.toWord
  | 0x28 => s.data.setWidth 32
  | 0x2C => s.clkdiv.setWidth 32
  | 0x30 => s.mrd.ptr
  | 0x34 => s.mrd.cap.setWidth 32
  | 0x38 => s.mrd.idx.setWidth 32
  | 0x3C => s.mwr.ptr
  | 0x40 => s.mwr.cap.setWidth 32
  | 0x44 => s.mwr.idx.setWidth 32
  | 0x48 => s.srd.ptr
  | 0x4C => s.srd.cap.setWidth 32
  | 0x50 => s.srd.idx.setWidth 32
  | 0x54 => s.swr.ptr
  | 0x58 => s.swr.cap.setWidth 32
  | 0x5C => s.swr.idx.setWidth 32
  | _ => 0

/-- A host write of a word at a window offset (10_state R22, R23): CMD issues a command; PTR, CNT and
CLKDIV keep their defined bits; every other offset ignores it. While FATAL=1 the state is frozen, so every
write is ignored (60 R275; log 15). -/
def writeCsr (off : Nat) (v : Word) (s : State) : Result :=
  if s.fatal then .next s
  else
    match off with
    | 0x00 => cmdWrite v s
    | 0x0C => .next { s with ptr := truncPtr s.cfg v }
    | 0x10 => .next { s with cnt := truncCnt s.cfg v }
    | 0x2C => .next { s with clkdiv := v.setWidth 16 }
    | _ => .next s

/-- The window offset of a defined host access: an aligned 32-bit access in the 256 bytes at CSR_BASE
(10_state R21, 20_memory R64). Any other access is refused (log 16). DESIGN CHOICE: alignment is measured
from CSR_BASE, which no rule says is aligned (log 27), and host addresses have 32 bits and do not wrap
(log 28). -/
def csrOffset (c : Config) (addr : Word) (width : AccessWidth) : Except Refusal Nat :=
  if addr.toNat < c.csrBase.toNat ∨ c.csrBase.toNat + 256 ≤ addr.toNat then .error .outsideCsrWindow
  else
    match width with
    | .bits8 | .bits16 => .error .undefinedCsrAccess
    | .bits32 =>
      if (addr.toNat - c.csrBase.toNat) % 4 = 0 then .ok (addr.toNat - c.csrBase.toNat)
      else .error .undefinedCsrAccess

/-- A host CSR write (10_state R23). -/
def hostWrite (addr : Word) (width : AccessWidth) (v : Word) (s : State) : Result :=
  match csrOffset s.cfg addr width with
  | .error q => .refused q
  | .ok off => writeCsr off v s

/-- A host CSR read (10_state R23, R49): no state of the core changes; the word read goes to the host. -/
def hostRead (addr : Word) (width : AccessWidth) (s : State) : Result :=
  match csrOffset s.cfg addr width with
  | .error q => .refused q
  | .ok off => .next { s with hostData := readCsr s off }

end Sys2Proof.Machine
end

