-- ==== Sys2Proof/Machine/SlaveEngine.lean ====
section
/-! DEFINITION. The slave role of the event engine: address matcher and slave byte controller
(40_event_engine R125 to R141). -/

namespace Sys2Proof.Machine

/-- `sw_complete()` (40 R128). -/
def State.slaveWriteComplete (s : State) : State :=
  { s with sstat := s.sstat.endWrite, stopIe := false, bus := .idle }

/-- `sr_complete()` (40 R129). -/
def State.slaveReadComplete (s : State) : State :=
  { s with sstat := s.sstat.endRead, bus := .idle }

/-- `slave_stop()` (40 R127), and `slave_reopen()` (40 R141), which does the same: the open channel, if
any, is completed. -/
def State.closeChannel (s : State) : State :=
  match s.bus with
  | .swd => s.slaveWriteComplete
  | .srd => s.slaveReadComplete
  | .idle | .mwa | .mwd | .mra | .mrd | .mh => s

/-- The end of `sl_load()`: DATA and TX (40 R134). -/
def State.slaveTransmit (s : State) (b : Byte) : State := { s with data := b }.emit (.tx b)

/-- `sl_load()` (40 R134): the next buffer byte, or the sentinel with RD_OVFL. -/
def slaveLoad (r : PortReply) (s : State) : Except Abort State :=
  if s.srd.more then
    match s.memRead r s.srd.addr with
    | .error e => .error e
    | .ok (b, t) => .ok ((t.bumpIdx .srd).slaveTransmit b)
  else .ok ({ s with sstat := { s.sstat with rdOvfl := true } }.slaveTransmit sentinel)

/-- `slave_read_start()` (40 R131). -/
def slaveReadStart (r : PortReply) (s : State) : Except Abort State :=
  slaveLoad r ({ s with bus := .srd, sstat := { s.sstat with rdBusy := true } }.emit .ack)

/-- `slave_write_start()` (40 R132). -/
def State.slaveWriteStart (s : State) : State :=
  { s with bus := .swd, sstat := { s.sstat with wrBusy := true }, stopIe := true }.emit .ack

/-- `addr_mismatch()` (40 R133). -/
def State.addrMismatch (s : State) : State := { s.emit .nak with bus := .idle }

/-- `address_match(a)` (40 R130): a literal comparison over all seven bits. -/
def addressMatch (r : PortReply) (a : Byte) (s : State) : Except Abort State :=
  let t := { s with data := a }
  if addrPart a = s.saddr then
    match dirPart a with
    | .read => slaveReadStart r t
    | .write => .ok t.slaveWriteStart
  else .ok t.addrMismatch

/-- `slave_write_byte(E)` (40 R137): stored and ACKed, or discarded and NAKed with WR_OVFL. -/
def slaveWriteByte (r : PortReply) (b : Byte) (s : State) : Except Abort State :=
  let t := { s with data := b }
  if s.swr.more then
    match t.memWrite r s.swr.addr b with
    | .error e => .error e
    | .ok u => .ok ((u.bumpIdx .swr).emit .ack)
  else .ok ({ t with sstat := { s.sstat with wrOvfl := true } }.emit .nak)

/-- `slave_data(E)` (40 R125, R135 to R138). -/
def slaveData (e : Snap) (r : PortReply) (s : State) : Except Abort State :=
  match s.bus with
  | .srd => if e.nak then .ok s.slaveReadComplete else slaveLoad r s
  | .swd => slaveWriteByte r e.rx s
  | .idle | .mwa | .mwd | .mra | .mrd | .mh => .error .desync

/-- `slave(E)` (40 R125): for an address byte a Stop comes first, for a data byte it comes after. -/
def slaveEvent (e : Snap) (r : PortReply) (s : State) : Except Abort State :=
  if e.lostArb || e.startAbort then .error .desync
  else if e.bc && e.saddr then
    if !s.cfg.slaveEn then .error .desync
    else
      let t := if e.stop then s.closeChannel else s
      addressMatch r e.rx t.closeChannel
  else if e.bc then
    match slaveData e r s with
    | .error a => .error a
    | .ok t => .ok (if e.stop then t.closeChannel else t)
  else if e.saddr then .error .desync
  else if e.stop then .ok s.closeChannel
  else .ok s

end Sys2Proof.Machine
end

