-- ==== Sys2Proof/Machine/MasterEngine.lean ====
section
/-! DEFINITION. The master role of the event engine: buffered transfers (40_event_engine R107 to R119). -/

namespace Sys2Proof.Machine

/-- `halt_complete(dir)` (40 R113). -/
def State.haltComplete (s : State) (dir : Dir) : State :=
  { s with bus := .mh, mstat := s.mstat.finishHalt dir }

/-- `finish_xfer(dir)` (40 R114): Halted with NO_STOP, else a Stop is emitted and awaited. -/
def State.finishXfer (s : State) (dir : Dir) : State :=
  if s.mmode.mode.noStop then s.haltComplete dir else { s.emit .stop with stopIe := true }

/-- The next byte of MWR goes to TX, or the transfer finishes (40 R110, R115). -/
def sendNext (r : PortReply) (s : State) : Except Abort State :=
  if s.mwr.more then
    match s.memRead r s.mwr.addr with
    | .error e => .error e
    | .ok (b, t) => .ok (({ t with data := b }.emit (.tx b)).bumpIdx .mwr)
  else .ok (s.finishXfer .write)

/-- `addr_ack_write()` (40 R110). BusState is MWD for a zero-length write too, as R110 says, where row 7 of
the derived table of R143 says MWA (log 12). -/
def addrAckWrite (r : PortReply) (s : State) : Except Abort State := sendNext r { s with bus := .mwd }

/-- `addr_ack_read()` (40 R111). -/
def State.addrAckRead (s : State) : State :=
  let t := { s with bus := .mrd }
  if s.mrd.cap ≠ 0 then t.emit .rx else t.finishXfer .read

/-- `addr_nak(dir)` (40 R112). -/
def State.addrNak (s : State) (dir : Dir) : State :=
  { s with mstat := s.mstat.nakAddr }.finishXfer dir

/-- `write_ack()` (40 R115). -/
def writeAck (r : PortReply) (s : State) : Except Abort State := sendNext r s

/-- `write_nak()` (40 R116): short only when bytes remain. -/
def State.writeNak (s : State) : State :=
  if s.mwr.more then { s with mstat := s.mstat.shorten }.finishXfer .write
  else s.finishXfer .write

/-- `read_arbitrate()` (40 R118): ACK and the next RX while room remains, else NAK and finish. -/
def State.readArbitrate (s : State) : State :=
  if s.mrd.more then (s.emit .ack).emit .rx else (s.emit .nak).finishXfer .read

/-- `read_byte(E)` (40 R117). -/
def readByte (r : PortReply) (b : Byte) (s : State) : Except Abort State :=
  if !s.mrd.more then .error .desync
  else
    match { s with data := b }.memWrite r s.mrd.addr b with
    | .error e => .error e
    | .ok t => .ok (t.bumpIdx .mrd).readArbitrate

/-- `master_byte(E)` (40 R109). -/
def masterByte (e : Snap) (r : PortReply) (s : State) : Except Abort State :=
  if s.stopIe || !s.mstat.xferInp then .error .desync
  else
    match s.bus with
    | .mwa => if e.nak then .ok (s.addrNak .write) else addrAckWrite r s
    | .mra => .ok (if e.nak then s.addrNak .read else s.addrAckRead)
    | .mwd => if e.nak then .ok s.writeNak else writeAck r s
    | .mrd => readByte r e.rx s
    | .mh | .idle | .swd | .srd => .error .desync

/-- The direction of the transfer a Stop ends (40 R119). -/
def State.stopDir (s : State) : Dir :=
  match s.bus with
  | .mwa | .mwd => .write
  | .mra | .mrd => .read
  | .mh | .idle | .swd | .srd => s.mmode.dir

/-- `master_stop()` (40 R119). -/
def State.masterStop (s : State) : State :=
  { s with mstat := s.mstat.finishStop s.stopDir, stopIe := false, bus := .idle }

/-- The state in which a Start or address byte can be preempted (40 R108, 42 R201). -/
def BusState.awaitsAddress : BusState → Bool
  | .mwa | .mra => true
  | .idle | .mwd | .mrd | .mh | .swd | .srd => false

/-- The address path after the bus was lost: a slave address carried by the snapshot is matched (40 R108,
42 R201, D28). -/
def matchAfterLoss (e : Snap) (r : PortReply) (s : State) : Except Abort State :=
  if e.bc && e.saddr && s.cfg.slaveEn then addressMatch r e.rx s else .ok s

/-- `arb(E)` (40 R108): lost arbitration or Start abort of a buffered transfer. -/
def arbEvent (e : Snap) (r : PortReply) (s : State) : Except Abort State :=
  if !s.mstat.xferInp || s.bus = .mh then .error .desync
  else if !e.lostArb && !s.bus.awaitsAddress then .error .desync
  else
    let t := if e.lostArb then s.emit .release else s
    matchAfterLoss e r { t with
      mstat := s.mstat.loseBus e.lostArb
      stopIe := false
      bus := .idle }

/-- `master(E)` (40 R107): the Stop is processed after the byte. -/
def masterEvent (e : Snap) (r : PortReply) (s : State) : Except Abort State :=
  if e.lostArb || e.startAbort then arbEvent e r s
  else if e.saddr then .error .desync
  else
    match (if e.bc then masterByte e r s else .ok s) with
    | .error a => .error a
    | .ok t => .ok (if e.stop then t.masterStop else t)

end Sys2Proof.Machine
end

