-- ==== Sys2Proof/Machine/ManualWait.lean ====
section
/-! DEFINITION. The completion of a pending manual command (42_master_manual R196 to R201). -/

namespace Sys2Proof.Machine

/-- LASTOP names a manual Start or Restart (42 R196, R201). -/
def State.pendingAddress (s : State) : Bool :=
  s.cmdstat.lastop == opSendStart || s.cmdstat.lastop == opSendRestart

/-- `stop_done()` (42 R198). -/
def State.stopDone (s : State) : State :=
  { s with bus := .idle }.complete (if s.cmdstat.lastop = opSendStop then .noError else .lbNak)

/-- `addr_wait(E)` (42 R197): an ACK completes; a NAK emits the one Stop and awaits it. -/
def State.addrWait (s : State) (nak : Bool) : State :=
  if nak then
    { s.emit .stop with cmdstat := { s.cmdstat with wstop := true } }
  else { s with bus := (if s.bus = BusState.mwa then BusState.mwd else BusState.mrd) }.complete .noError

/-- `write_wait(E)` (42 R199). -/
def State.writeWait (s : State) (nak : Bool) : State :=
  if nak then { s with bus := .mh }.complete .lbNak else s.complete .noError

/-- `read_wait(E)` (42 R200). -/
def State.readWait (s : State) (b : Byte) : State :=
  let t := { s with data := b, rdata := b.setWidth 32 }
  (if s.margBit then t.emit .ack else { t.emit .nak with bus := .mh }).complete .noError

/-- The byte wait that LASTOP names (42 R196). No other opcode is pending with WSTOP=0; one would wait
for nothing (log 17). -/
def State.byteWait (s : State) (e : Snap) : State :=
  if s.pendingAddress then s.addrWait e.nak
  else if s.cmdstat.lastop = opWriteByte then s.writeWait e.nak
  else if s.cmdstat.lastop = opReadByte then s.readWait e.rx
  else s

/-- `manual_arb(E)` (42 R201). -/
def manualArb (e : Snap) (r : PortReply) (s : State) : Except Abort State :=
  if !e.lostArb && (!s.pendingAddress || s.cmdstat.wstop || !s.bus.awaitsAddress) then
    .error .desync
  else
    let t := if e.lostArb then s.emit .release else s
    matchAfterLoss e r
      ({ t with bus := .idle }.complete (if e.lostArb then .arbLost else .startAborted))

/-- `manual_wait(E)` (42 R196). -/
def manualWait (e : Snap) (r : PortReply) (s : State) : Except Abort State :=
  if e.lostArb || e.startAbort then manualArb e r s
  else if e.saddr then .error .desync
  else if s.cmdstat.wstop then (if e.bc then .error .desync else .ok s.stopDone)
  else if !e.bc then .error .desync
  else
    let t := s.byteWait e
    if e.stop then (if t.cmdstat.wstop then .ok t.stopDone else .error .desync) else .ok t

end Sys2Proof.Machine
end

