-- ==== Sys2Proof/Machine/EventEngine.lean ====
section
/-! DEFINITION. Delivery and dispatch of snapshots: one step of the event engine (40_event_engine R100 to
R106). -/

namespace Sys2Proof.Machine

/-- `deliverable(E)` (40 R101). -/
def State.deliverable (s : State) (e : Snap) : Bool :=
  s.en && !s.fatal &&
    (e.bc || e.lostArb || e.startAbort || e.timeout ||
      (e.stop && (s.stopIe || (s.cmdstat.busy && s.cmdstat.wstop))))

/-- `handle(E)` (40 R103). -/
def handle (e : Snap) (r : PortReply) (s : State) : Except Abort State :=
  if e.timeout then .ok s.timeoutRecover
  else if s.desync then .ok s
  else if s.cmdstat.busy then manualWait e r s
  else if s.bus.isMaster then masterEvent e r s
  else slaveEvent e r s

/-- One event step on a masked snapshot: discarded (40 R101), or handled, a desync dropping all of it (40
R102, R106). -/
def eventStepOn (e : Snap) (r : PortReply) (s : State) : Result :=
  if s.deliverable e then closeStep s (handle e r s) else .next s

/-- One step of the event engine on a snapshot word, masked first (30_encoding R94; 40 R100). -/
def eventStep (w : SnapWord) (r : PortReply) (s : State) : Result :=
  eventStepOn (snapOf s.cfg w) r s

end Sys2Proof.Machine
end

