-- ==== Sys2Proof/Machine/Agents.lean ====
section
/-! DEFINITION. The host's own path to buffer memory, with its races against the engine (20_memory R60 b,
R69, R70; 70 R307), and the step of each agent (00_scope R5). -/

namespace Sys2Proof.Machine

/-- A host store of one byte. To a byte the engine may be sending, memory holds the new byte and the
engine may still read the old one (20_memory R70). To a byte the engine may be storing, either write may
prevail (93 I9). Free values, log 9. -/
def hostStore (addr : Word) (v : Byte) (s : State) : Result :=
  let a := addr.toNat
  let old := Memory.read s.mem a
  if 2 ^ s.cfg.aw ≤ a then .fault .outsideBufferSpace
  else if s.mayWrite a then
    .next { s with
      mem := Memory.write s.mem a (s.pick v [old])
      races := (a, old) :: (a, v) :: s.races
      draws := s.draws + 1 }
  else if s.owns a then
    .next { s with mem := Memory.write s.mem a v, races := (a, old) :: s.races }
  else .next { s with mem := Memory.write s.mem a v }

/-- A host load of one byte. Of a byte the engine may be storing, any value (20_memory R70, 93 I9; log
10). -/
def hostLoad (addr : Word) (s : State) : Result :=
  let a := addr.toNat
  if 2 ^ s.cfg.aw ≤ a then .fault .outsideBufferSpace
  else if s.mayWrite a then
    .next { s with hostData := (Config.raceByte s.draws).setWidth 32, draws := s.draws + 1 }
  else .next { s with hostData := (Memory.read s.mem a).setWidth 32 }

/-- The step of an agent (00_scope R5, R6). -/
def agentStep (x : AgentStep) (s : State) : Result :=
  match x with
  | .csrWrite addr width v => hostWrite addr width v s
  | .csrRead addr width => hostRead addr width s
  | .snapshot w r => eventStep w r s
  | .memStore addr v => hostStore addr v s
  | .memLoad addr => hostLoad addr s
  | .reset => .next s.hardReset

/-- A step's end: races over bytes the engine no longer owns are settled (20_memory R70). -/
def settle (r : Result) : Result :=
  match r with
  | .next s => .next s.dropSettledRaces
  | .fault f => .fault f
  | .refused q => .refused q

/-- Taking an input: it leaves the list, and its BUS_BUSY level is the level of the step (10_state R36). -/
def State.takeInput (s : State) (x : Input) (rest : List Input) : State :=
  { s with inputs := rest, busBusy := x.busBusy }

/-- The next agent's step (00_scope R6). With no input, nothing advances (10_state R46; log 3). -/
def nextStep (s : State) : Result :=
  match s.inputs with
  | [] => .next s
  | x :: rest => settle (agentStep x.act (s.takeInput x rest))

/-- The input that issues a command word: a host write of it to CMD, at CSR_BASE + 0x00 (10_state R24). -/
def cmdInput (c : Config) (busBusy : Bool) (w : Word) : Input where
  busBusy := busBusy
  act := .csrWrite c.csrBase .bits32 w

end Sys2Proof.Machine
end

