-- ==== Sys2Proof/Machine/Step.lean ====
section
/-! DEFINITION. One step of the machine, and where it takes its next command from. -/

namespace Sys2Proof.Machine

/-- One step: the next input's agent takes it (00_scope R5, R6). -/
def step (s : State) : Host.Outcome State Fault Refusal := nextStep s

/-- `s` with a host write of the command word `w` to CMD as its next input, the BUS_BUSY level as it is:
commands reach the core only by CMD writes (10_state R24, R46; log 3). Everything else stays. -/
def State.withFetchWord (s : State) (nbits w : Nat) : State :=
  { s with inputs := cmdInput s.cfg s.busBusy (BitVec.ofNat 32 (w % 2 ^ nbits)) :: s.inputs }

end Sys2Proof.Machine
end

