-- ==== Sys2Proof/Safety.lean ====
section
/-! DEFINITION. What counts as a safe run: the invariants of 10_state R45, the kinds of step of 00_scope
R7, faulted and final states (60 R275), and the environment's side of hardware address decoding (40
R140). -/

namespace Sys2Proof.Machine

/-- The kinds of step of 00_scope rule R7, and `refused`. -/
inductive StepKind where
  | next
  | fault
  | stuck
  | refused
  deriving DecidableEq, Repr

/-- Rule R7 (a): FATAL=1 is the fault outcome (60 R275; log 8). -/
def State.faulted (s : State) : Bool := s.fatal

/-- The kind of the step from `s` (00_scope R7): (b) a fault is a step in which FATAL becomes 1, (c)
stuck has no next state. -/
def stepKind (s : State) : StepKind :=
  match step s with
  | .next t => if t.faulted && !s.faulted then .fault else .next
  | .fault _ => .stuck
  | .refused _ => .refused

/-- A transfer, a slave channel or a manual command waits for a snapshot (70 R310). -/
def State.waiting (s : State) : Bool :=
  s.mstat.xferInp || s.sstat.rdBusy || s.sstat.wrBusy || s.cmdstat.busy

/-- A final state of a run: every input taken, not faulted, since "a faulted state is never a final state"
(00_scope R7), and not waiting. DEDUCED (log 29): 93 I21 calls a wait for a snapshot that never comes stuck,
and a stuck state is never final (20_memory R68). -/
def State.final (s : State) : Bool := s.inputs.isEmpty && !s.faulted && !s.waiting

/-- With HW_ADDR_DECODE=1 the PHY delivers an address snapshot only for a matching address byte (40 R140). -/
def phyKeepsSide (s : State) (w : SnapWord) : Bool :=
  !(s.cfg.hwAddrDecode && (snapOf s.cfg w).bc && (snapOf s.cfg w).saddr) ||
    addrPart (snapOf s.cfg w).rx == s.saddr

/-- A transfer may be in flight in these states (10_state R45 I3). -/
def BusState.inTransfer : BusState → Bool
  | .mwa | .mwd | .mra | .mrd => true
  | .idle | .mh | .swd | .srd => false

/-- The phase a pending manual command waits in, as LASTOP, WSTOP and BusState name it (42 R196). -/
def State.pendingPhaseOk (s : State) : Bool :=
  (s.pendingAddress && s.bus.awaitsAddress) ||
    (s.cmdstat.lastop == opSendStop && s.cmdstat.wstop && s.bus.holdsBus) ||
    (s.cmdstat.lastop == opWriteByte && !s.cmdstat.wstop && s.bus == .mwd) ||
    (s.cmdstat.lastop == opReadByte && !s.cmdstat.wstop && s.bus == .mrd)

/-- The direction of a transfer in flight, by its bus state. -/
def State.dirAgrees (s : State) : Bool :=
  match s.bus with
  | .mwa | .mwd => s.mmode.dir == .write
  | .mra | .mrd => s.mmode.dir == .read
  | .idle | .mh | .swd | .srd => true

/-- The engine takes snapshots in its buffered and slave handlers: enabled, not halted, not
desynchronised, no manual command pending (40 R101, R103). -/
abbrev State.receptive (s : State) : Prop :=
  s.en = true ∧ s.fatal = false ∧ s.desync = false ∧ s.cmdstat.busy = false

/-- A manual command is pending and its snapshots are taken (40 R103, 42 R196). -/
abbrev State.awaiting (s : State) : Prop :=
  s.en = true ∧ s.fatal = false ∧ s.desync = false ∧ s.cmdstat.busy = true

/-- A buffered transfer is in flight and its Stop not yet requested (40 R109). -/
abbrev State.inFlight (s : State) : Prop :=
  s.receptive ∧ s.mstat.xferInp = true ∧ s.stopIe = false

/-- A snapshot with no timeout and no arbitration bit. -/
abbrev Snap.plain (e : Snap) : Prop :=
  e.timeout = false ∧ e.lostArb = false ∧ e.startAbort = false

/-- A plain snapshot of one data byte with no Stop. -/
abbrev Snap.dataByte (e : Snap) : Prop :=
  e.plain ∧ e.bc = true ∧ e.saddr = false ∧ e.stop = false

/-- The offset of the next input, if it is a defined host write to the CSR window. -/
def State.nextCsrWrite (s : State) : Option Nat :=
  match s.inputs with
  | ⟨_, .csrWrite addr width _⟩ :: _ =>
    match csrOffset s.cfg addr width with
    | .ok off => some off
    | .error _ => none
  | _ => none

/-- The command of the next input, if it is a host write of a command word to CMD. -/
def State.nextCommand (s : State) : Option Instr :=
  match s.inputs with
  | ⟨_, .csrWrite addr width w⟩ :: _ =>
    match csrOffset s.cfg addr width, decode s.cfg w with
    | .ok 0, .ok i => some i
    | _, _ => none
  | _ => none

/-- The next input is the reset input. -/
def State.nextIsReset (s : State) : Bool :=
  match s.inputs with
  | ⟨_, .reset⟩ :: _ => true
  | _ => false

/-- The invariants of 10_state R45 (I1 to I8), and the facts about State that make every step keep them. -/
structure State.Inv (s : State) : Prop where
  /-- I1 -/
  idxLeCap : ∀ b, (s.buf b).idx.toNat ≤ (s.buf b).cap.toNat
  /-- I2 -/
  stopIeState : s.stopIe = true → s.bus.inTransfer = true ∨ s.bus = .swd
  /-- I3 -/
  xferState : s.mstat.xferInp = true → s.bus.inTransfer = true
  /-- I4 -/
  busyState : s.cmdstat.busy = true →
    s.mstat.xferInp = false ∧ s.en = true ∧ s.bus.isMaster = true
  /-- I5, read channel -/
  rdBusyState : s.sstat.rdBusy = true ↔ s.bus = .srd
  /-- I5, write channel -/
  wrBusyState : s.sstat.wrBusy = true ↔ s.bus = .swd
  /-- I6, FATAL -/
  fatalConfig : s.fatal = true → s.cfg.timeoutEn = false
  /-- I6, DESYNC -/
  desyncConfig : s.desync = true → s.cfg.timeoutEn = true
  /-- I7 -/
  bufFits : ∀ b, (s.buf b).ptr.toNat + (s.buf b).cap.toNat ≤ 2 ^ s.cfg.aw
  /-- I8 -/
  disabled : s.en = false →
    s.bus = .idle ∧ s.stopIe = false ∧ s.mstat.xferInp = false ∧ s.sstat.rdBusy = false ∧
      s.sstat.wrBusy = false ∧ s.cmdstat.busy = false
  /-- STOP_IE=1 in a master state implies XFER_INP=1 (40 R119) -/
  stopIeXfer : s.stopIe = true → s.bus.isMaster = true → s.mstat.xferInp = true
  /-- WSTOP reads 0 when BUSY=0 (10_state R25) -/
  wstopBusy : s.cmdstat.wstop = true → s.cmdstat.busy = true
  /-- a pending command is in one of the phases of 42 R196 -/
  pendingPhase : s.cmdstat.busy = true → s.pendingPhaseOk = true
  /-- MMODE.DIR names the direction of a transfer in flight (41 R160) -/
  xferDir : s.mstat.xferInp = true → s.dirAgrees = true
  /-- PTR has AW bits (10_state R27) -/
  ptrWidth : s.ptr.toNat < 2 ^ s.cfg.aw
  /-- CNT has CNT_W bits (10_state R28) -/
  cntWidth : s.cnt.toNat < 2 ^ s.cfg.cntW
  /-- descriptor pointers have AW bits (10_state R43) -/
  bufPtrWidth : ∀ b, (s.buf b).ptr.toNat < 2 ^ s.cfg.aw
  /-- descriptor capacities have CNT_W bits (10_state R43) -/
  bufCapWidth : ∀ b, (s.buf b).cap.toNat < 2 ^ s.cfg.cntW
  /-- buffer memory keeps its canonical form -/
  memCanonical : Memory.wf s.mem = true

end Sys2Proof.Machine
end

