-- ==== Sys2Proof/Certificates/Slice0/Obligations.lean ====
section
/-! DEFINITION. The statements about the core, from the numbered rules of spec/. Where a result is a
next state, it is written as the old state with the fields that change, so it says the frame as well:
every register, flag, history and byte of memory not named is as before. -/

open Sys2Proof Sys2Proof.Machine

/-! ### Encoding -/

/-- Sanity: the words E1 to E12, E23 and E24 of 95_test_vectors section 2 and the words of the four lifecycle
commands decode as the spec says. -/
def Obligations.SpecExampleWordsDecode : Prop :=
  decode Config.standard 0x01000000 = .ok .init ∧
  decode Config.standard 0x02000000 = .ok .enable ∧
  decode Config.standard 0x03000000 = .ok .start ∧
  decode Config.standard 0x04000000 = .ok .stop ∧
  decode Config.standard 0x10500000 = .ok (.masterWriteBuf 0x50 ⟨false, false⟩) ∧
  decode Config.standard 0x11500002 = .ok (.masterReadBuf 0x50 ⟨false, true⟩) ∧
  decode Config.standard 0x10500003 = .ok (.masterWriteBuf 0x50 ⟨true, true⟩) ∧
  decode Config.standard 0x12100001 = .ok (.masterSendStart 0x10 .read) ∧
  decode Config.standard 0x13500000 = .ok (.masterSendRestart 0x50 .write) ∧
  decode Config.standard 0x1500A500 = .ok (.masterWriteByte 0xA5) ∧
  decode Config.standard 0x16000001 = .ok (.masterReadByte true) ∧
  decode Config.standard 0x16000000 = .ok (.masterReadByte false) ∧
  decode Config.standard 0x20100000 = .ok (.slaveSetAddress 0x10) ∧
  decode Config.standard 0x207F0000 = .ok (.slaveSetAddress 0x7F) ∧
  decode Config.standard 0x20FF0000 = .error .reservedBit ∧
  decode Config.standard 0x10500004 = .error .reservedBit ∧
  decode Config.standard 0x00000000 = .error .reservedOpcode ∧
  decode Config.standard 0x1C000000 = .ok .masterClearWriteBuf ∧
  decode Config.standard 0x29000000 = .ok .slaveClearWriteBuf

/-- Decode and encode agree, for every command the configuration has and every operand value. -/
def Obligations.DecodeOfEncodeIsTheCommand : Prop :=
  ∀ (c : Config) (i : Instr), i.wf c = true → decode c (encode i) = .ok i

/-- The other direction: a word that decodes is the one encoding of its command, and the command is
present in the configuration. So no two words are one command, and no reserved bit is dropped. -/
def Obligations.DecodedWordIsTheEncoding : Prop :=
  ∀ (c : Config) (w : Word) (i : Instr), decode c w = .ok i → encode i = w ∧ i.wf c = true

/-- 30_encoding R92, R89 with 44_lifecycle R255: a reserved opcode, a reserved bit set, or a role the
configuration lacks is illegal; accepted by the issue rule, it sets CODE and LASTOP and nothing else. -/
def Obligations.IllegalWordsOnlySetCodeAndLastop : Prop :=
  ∀ (s : State) (w : Word), s.fatal = false → s.cmdstat.busy = false →
    let op := (w.extractLsb' 24 8).toNat
    (op = 0 ∨ (0x05 ≤ op ∧ op ≤ 0x0F) ∨ (0x1D ≤ op ∧ op ≤ 0x1F) ∨ 0x2A ≤ op ∨
      ((op = 0x10 ∨ op = 0x11) ∧ w &&& 0x0080FFFC#32 ≠ 0) ∨
      ((op = 0x12 ∨ op = 0x13) ∧ w &&& 0x0080FFFE#32 ≠ 0) ∨
      (op = 0x15 ∧ w &&& 0x00FF00FF#32 ≠ 0) ∨
      (op = 0x16 ∧ w &&& 0x00FFFFFE#32 ≠ 0) ∨
      (op = 0x20 ∧ w &&& 0x0080FFFF#32 ≠ 0) ∨
      (op ≠ 0x10 ∧ op ≠ 0x11 ∧ op ≠ 0x12 ∧ op ≠ 0x13 ∧ op ≠ 0x15 ∧ op ≠ 0x16 ∧ op ≠ 0x20 ∧
        w &&& 0x00FFFFFF#32 ≠ 0) ∨
      (s.cfg.masterEn = false ∧ 0x10 ≤ op ∧ op ≤ 0x1C) ∨
      (s.cfg.slaveEn = false ∧ 0x20 ≤ op ∧ op ≤ 0x29)) →
    cmdWrite w s =
      .next { s with cmdstat := { s.cmdstat with code := .illegal, lastop := w.extractLsb' 24 8 } }

/-- 30_encoding R90: the address byte holds a7 in bits 7..1 and rw in bit 0, 1 for read; the matcher
splits a received byte the same way. -/
def Obligations.AddressByteLayout : Prop :=
  ∀ (a7 : Addr7) (rw : Dir),
    (addrByte a7 rw).toNat = 2 * a7.toNat + (if rw = .read then 1 else 0) ∧
    addrPart (addrByte a7 rw) = a7 ∧ dirPart (addrByte a7 rw) = rw

/-! ### Command issue and the step -/

/-- A step whose input is a host write of a word to CMD, accepted and decoding to `i`, is `exec i` on the
state with the input taken and LASTOP written; the same for the word placed by `withFetchWord`. -/
def Obligations.StepRunsTheDecodedCommand : Prop :=
  (∀ (s : State) (level : Bool) (w : Word) (rest : List Input) (i : Instr),
    s.inputs = ⟨level, .csrWrite s.cfg.csrBase .bits32 w⟩ :: rest →
    s.fatal = false → s.cmdstat.busy = false → decode s.cfg w = .ok i →
    step s = settle (exec i { s with
      inputs := rest
      busBusy := level
      cmdstat := { s.cmdstat with lastop := w.extractLsb' 24 8 } })) ∧
  (∀ (s : State) (w : Word) (i : Instr),
    s.fatal = false → s.cmdstat.busy = false → decode s.cfg w = .ok i →
    step (s.withFetchWord 32 w.toNat) =
      settle (exec i { s with cmdstat := { s.cmdstat with lastop := w.extractLsb' 24 8 } }))

/-- Every other agent's step: the input leaves the list and brings the BUS_BUSY level, and the agent's
operation follows. With no input, nothing advances (the model's choice, log 3). -/
def Obligations.StepLetsTheNextAgentMove : Prop :=
  ∀ (s : State) (level : Bool) (rest : List Input),
    let t := { s with inputs := rest, busBusy := level }
    (∀ w r, s.inputs = ⟨level, .snapshot w r⟩ :: rest → step s = settle (eventStep w r t)) ∧
    (∀ a v, s.inputs = ⟨level, .memStore a v⟩ :: rest → step s = settle (hostStore a v t)) ∧
    (∀ a, s.inputs = ⟨level, .memLoad a⟩ :: rest → step s = settle (hostLoad a t)) ∧
    (∀ a k v, s.inputs = ⟨level, .csrWrite a k v⟩ :: rest → step s = settle (hostWrite a k v t)) ∧
    (∀ a k, s.inputs = ⟨level, .csrRead a k⟩ :: rest → step s = settle (hostRead a k t)) ∧
    (s.inputs = [] → step s = .next s)

/-- 44_lifecycle R250 and 60 R273: a CMD write is ignored under FATAL, sets OVR alone under BUSY, and is
otherwise recorded in LASTOP and executed. -/
def Obligations.CommandIssueGates : Prop :=
  ∀ (s : State) (w : Word),
    (s.fatal = true → cmdWrite w s = .next s) ∧
    (s.fatal = false → s.cmdstat.busy = true →
      cmdWrite w s = .next { s with cmdstat := { s.cmdstat with ovr := true } }) ∧
    (∀ i, s.fatal = false → s.cmdstat.busy = false → decode s.cfg w = .ok i →
      cmdWrite w s = exec i { s with cmdstat := { s.cmdstat with lastop := w.extractLsb' 24 8 } })

/-! ### Lifecycle -/

/-- 44_lifecycle R251: INIT is refused while EN=1, and otherwise writes exactly the elements listed. -/
def Obligations.InitWritesTheListedElements : Prop :=
  ∀ s : State,
    (s.en = true →
      exec .init s = .next { s with cmdstat := { s.cmdstat with code := .notReady } }) ∧
    (s.en = false → exec .init s = .next { s with
      mrd := ⟨0, 0, 0⟩
      mwr := ⟨0, 0, 0⟩
      srd := ⟨0, 0, 0⟩
      swr := ⟨0, 0, 0⟩
      mstat := ⟨false, false, false, false, false, false, false, false⟩
      sstat := ⟨false, false, false, false, false, false⟩
      mmode := ⟨⟨false, false⟩, .write, 0⟩
      data := 0
      bus := .idle
      stopIe := false
      desync := false
      saddr := s.cfg.defaultSaddr
      clkdiv := s.cfg.clkdivDefault
      inited := true
      cmdstat := { s.cmdstat with ovr := false, code := .noError } })

/-- 44_lifecycle R252, R253: ENABLE sets EN. START runs INIT's effects when INITED=0 and EN=0, and then is
INIT followed by ENABLE; otherwise it only sets EN. -/
def Obligations.EnableAndStartSetEn : Prop :=
  ∀ s : State,
    (exec .enable s =
      .next { s with en := true, cmdstat := { s.cmdstat with code := .noError } }) ∧
    (s.inited = true ∨ s.en = true → exec .start s =
      .next { s with en := true, cmdstat := { s.cmdstat with code := .noError } }) ∧
    (s.inited = false → s.en = false → ∃ t, exec .init s = .next t ∧ t.inited = true ∧
      exec .start s = .next { t with en := true } ∧ exec .start s = exec .enable t)

/-- 44_lifecycle R254: STOP abandons whatever is in progress: RELEASE from a master state, ERR_XFER for a
transfer in flight, busy bits, STOP_IE and DESYNC cleared, Idle, EN=0; no completion bit. -/
def Obligations.StopAbandonsWhatIsInProgress : Prop :=
  ∀ s : State, exec .stop s = .next { s with
    mstat := { s.mstat with errXfer := s.mstat.errXfer || s.mstat.xferInp, xferInp := false }
    sstat := { s.sstat with rdBusy := false, wrBusy := false }
    stopIe := false
    desync := false
    bus := .idle
    en := false
    actions := s.actions ++ (if s.bus = .idle ∨ s.bus = .swd ∨ s.bus = .srd then [] else [.release])
    cmdstat := { s.cmdstat with code := .noError } }

/-! ### Master buffered commands -/

/-- 41 R160 to R162: with every check passed, MASTER_WRITE_BUF and MASTER_READ_BUF arm their own buffer from
PTR and CNT, latch MMODE and emit the address byte, with a Start from Idle, a Restart from Halted. -/
def Obligations.BufferedCommandsArm : Prop :=
  ∀ (s : State) (a7 : Addr7) (m : TransferMode),
    s.en = true → s.ptr ≠ 0 → s.ptr.toNat + s.cnt.toNat ≤ 2 ^ s.cfg.aw →
    ((s.bus = .idle ∧ s.busBusy = false ∧ m.repeatStart = false) ∨
      (s.bus = .mh ∧ m.repeatStart = true)) →
    (exec (.masterWriteBuf a7 m) s = .next { s with
      mwr := ⟨s.ptr, s.cnt, 0⟩
      mmode := ⟨m, .write, a7⟩
      mstat := { s.mstat with xferInp := true }
      data := addrByte a7 .write
      actions := s.actions ++ [if s.bus = .idle then .start (addrByte a7 .write)
        else .restart (addrByte a7 .write)]
      bus := .mwa
      cmdstat := { s.cmdstat with code := .noError } }) ∧
    (exec (.masterReadBuf a7 m) s = .next { s with
      mrd := ⟨s.ptr, s.cnt, 0⟩
      mmode := ⟨m, .read, a7⟩
      mstat := { s.mstat with xferInp := true }
      data := addrByte a7 .read
      actions := s.actions ++ [if s.bus = .idle then .start (addrByte a7 .read)
        else .restart (addrByte a7 .read)]
      bus := .mra
      cmdstat := { s.cmdstat with code := .noError } })

/-- 41 R160 (the checks "run in the order written") and R169: which code a refused buffered command
returns, in every state; it changes nothing but CODE. -/
def Obligations.BufferedRefusalsInCheckOrder : Prop :=
  ∀ (s : State) (a7 : Addr7) (m : TransferMode) (i : Instr),
    i = .masterWriteBuf a7 m ∨ i = .masterReadBuf a7 m →
    let refused (c : ResultCode) : Result := .next { s with cmdstat := { s.cmdstat with code := c } }
    (s.en = false → exec i s = refused .notReady) ∧
    (s.bus ≠ .idle → s.bus ≠ .mh → exec i s = refused .notReady) ∧
    (s.bus = .idle → m.repeatStart = true → exec i s = refused .notReady) ∧
    (s.bus = .mh → m.repeatStart = false → exec i s = refused .notReady) ∧
    (s.ptr = 0 ∨ 2 ^ s.cfg.aw < s.ptr.toNat + s.cnt.toNat → exec i s = refused .notReady) ∧
    (s.en = true → s.bus = .idle → m.repeatStart = false → s.ptr ≠ 0 →
      s.ptr.toNat + s.cnt.toNat ≤ 2 ^ s.cfg.aw → s.busBusy = true → exec i s = refused .busBusy)

/-- 41 R163, R164: the status commands return MSTAT as the CSR shows it; the clearing one keeps XFER_INP
alone and is idempotent. Nothing else changes but CODE. -/
def Obligations.MasterStatusCommandsReturnMstat : Prop :=
  ∀ s : State,
    (∃ t, exec .masterStatus s = .next t ∧ readCsr t 0x08 = readCsr s 0x18 ∧
      t = { s with rdata := t.rdata, cmdstat := { s.cmdstat with code := .noError } }) ∧
    (∃ t, exec .masterClearStatus s = .next t ∧ readCsr t 0x08 = readCsr s 0x18 ∧
      readCsr t 0x18 = readCsr s 0x18 &&& 0x04#32 ∧
      t = { s with
        rdata := t.rdata, mstat := t.mstat, cmdstat := { s.cmdstat with code := .noError } } ∧
      exec .masterClearStatus t = .next { t with rdata := readCsr t 0x18 })

/-- 41 R165 to R168: the master accessors return the index as the CSR shows it, or clear it keeping ptr and
cap. -/
def Obligations.MasterBufferAccessors : Prop :=
  ∀ s : State,
    exec .masterGetReadBufSize s = .next { s with
      rdata := readCsr s 0x38, cmdstat := { s.cmdstat with code := .noError } } ∧
    exec .masterGetWriteBufSize s = .next { s with
      rdata := readCsr s 0x44, cmdstat := { s.cmdstat with code := .noError } } ∧
    exec .masterClearReadBuf s = .next { s with
      mrd := ⟨s.mrd.ptr, s.mrd.cap, 0⟩, cmdstat := { s.cmdstat with code := .noError } } ∧
    exec .masterClearWriteBuf s = .next { s with
      mwr := ⟨s.mwr.ptr, s.mwr.cap, 0⟩, cmdstat := { s.cmdstat with code := .noError } }

/-! ### Master manual commands: issue -/

/-- 42 R190 to R192: MASTER_SEND_START from Idle with a free bus, and MASTER_SEND_RESTART from MWD, MRD or MH
whatever the bus, emit the address byte and become pending; from any other state they are refused. -/
def Obligations.ManualAddressCommandsBecomePending : Prop :=
  ∀ (s : State) (a7 : Addr7) (rw : Dir), s.en = true → s.mstat.xferInp = false →
    let refused (c : ResultCode) : Result := .next { s with cmdstat := { s.cmdstat with code := c } }
    let pending (act : Action) : Result := .next { s with
      data := addrByte a7 rw
      actions := s.actions ++ [act]
      bus := (match rw with | .read => .mra | .write => .mwa)
      marg := (match rw with | .read => true | .write => false)
      cmdstat := { s.cmdstat with busy := true, wstop := false } }
    (s.bus = .idle → s.busBusy = false →
      exec (.masterSendStart a7 rw) s = pending (.start (addrByte a7 rw))) ∧
    (s.bus = .idle → s.busBusy = true → exec (.masterSendStart a7 rw) s = refused .busBusy) ∧
    (s.bus ≠ .idle → exec (.masterSendStart a7 rw) s = refused .notReady) ∧
    (s.bus = .mwd ∨ s.bus = .mrd ∨ s.bus = .mh →
      exec (.masterSendRestart a7 rw) s = pending (.restart (addrByte a7 rw))) ∧
    (s.bus ≠ .mwd → s.bus ≠ .mrd → s.bus ≠ .mh →
      exec (.masterSendRestart a7 rw) s = refused .notReady)

/-- 42 R193 to R195: MASTER_SEND_STOP, MASTER_WRITE_BYTE and MASTER_READ_BYTE from their start states; from
any other state they are refused. -/
def Obligations.ManualStopAndByteCommandsBecomePending : Prop :=
  ∀ s : State, s.en = true → s.mstat.xferInp = false →
    (s.bus = .mwd ∨ s.bus = .mrd ∨ s.bus = .mh → exec .masterSendStop s = .next { s with
      actions := s.actions ++ [.stop]
      marg := false
      cmdstat := { s.cmdstat with busy := true, wstop := true } }) ∧
    (∀ d8, s.bus = .mwd → exec (.masterWriteByte d8) s = .next { s with
      data := d8
      actions := s.actions ++ [.tx d8]
      marg := false
      cmdstat := { s.cmdstat with busy := true, wstop := false } }) ∧
    (∀ ack, s.bus = .mrd → exec (.masterReadByte ack) s = .next { s with
      actions := s.actions ++ [.rx]
      marg := ack
      cmdstat := { s.cmdstat with busy := true, wstop := false } }) ∧
    (s.bus ≠ .mwd → s.bus ≠ .mrd → s.bus ≠ .mh → exec .masterSendStop s =
      .next { s with cmdstat := { s.cmdstat with code := .notReady } }) ∧
    (∀ d8, s.bus ≠ .mwd → exec (.masterWriteByte d8) s =
      .next { s with cmdstat := { s.cmdstat with code := .notReady } }) ∧
    (∀ ack, s.bus ≠ .mrd → exec (.masterReadByte ack) s =
      .next { s with cmdstat := { s.cmdstat with code := .notReady } })

/-- 42 R190 (`manual_pre`): with EN=0 or a buffered transfer in flight every manual command returns
NOT_READY and does nothing else. -/
def Obligations.ManualCommandsNeedEnableAndNoTransfer : Prop :=
  ∀ (s : State) (i : Instr), s.en = false ∨ s.mstat.xferInp = true →
    ((∃ a7 rw, i = .masterSendStart a7 rw) ∨ (∃ a7 rw, i = .masterSendRestart a7 rw) ∨
      i = .masterSendStop ∨ (∃ d, i = .masterWriteByte d) ∨ (∃ k, i = .masterReadByte k)) →
    exec i s = .next { s with cmdstat := { s.cmdstat with code := .notReady } }

/-! ### Slave commands -/

/-- 43 R220, R222, R223: the slave buffers are installed in every bus state, with EN=0 or 1; refused only
for a null pointer with a nonzero count or past the top of the address space. -/
def Obligations.SlaveBuffersInstallInEveryState : Prop :=
  ∀ s : State,
    (s.ptr ≠ 0 ∨ s.cnt = 0 → s.ptr.toNat + s.cnt.toNat ≤ 2 ^ s.cfg.aw →
      exec .slaveInitReadBuf s = .next { s with
        srd := ⟨s.ptr, s.cnt, 0⟩, cmdstat := { s.cmdstat with code := .noError } } ∧
      exec .slaveInitWriteBuf s = .next { s with
        swr := ⟨s.ptr, s.cnt, 0⟩, cmdstat := { s.cmdstat with code := .noError } }) ∧
    ((s.ptr = 0 ∧ s.cnt ≠ 0) ∨ 2 ^ s.cfg.aw < s.ptr.toNat + s.cnt.toNat →
      exec .slaveInitReadBuf s = .next { s with cmdstat := { s.cmdstat with code := .notReady } } ∧
      exec .slaveInitWriteBuf s = .next { s with cmdstat := { s.cmdstat with code := .notReady } })

/-- 43 R224 to R226: the slave status commands return SSTAT as the CSR shows it before the clearing; they
clear bits 0 and 2, or bits 4 and 6, and keep the busy bits. -/
def Obligations.SlaveStatusCommandsReturnSstat : Prop :=
  ∀ s : State,
    (∃ t, exec .slaveStatus s = .next t ∧ readCsr t 0x08 = readCsr s 0x1C ∧
      t = { s with rdata := t.rdata, cmdstat := { s.cmdstat with code := .noError } }) ∧
    (∃ t, exec .slaveClearReadStatus s = .next t ∧ readCsr t 0x08 = readCsr s 0x1C ∧
      readCsr t 0x1C = readCsr s 0x1C &&& 0xFA#32 ∧
      t = { s with
        rdata := t.rdata, sstat := t.sstat, cmdstat := { s.cmdstat with code := .noError } }) ∧
    (∃ t, exec .slaveClearWriteStatus s = .next t ∧ readCsr t 0x08 = readCsr s 0x1C ∧
      readCsr t 0x1C = readCsr s 0x1C &&& 0xAF#32 ∧
      t = { s with
        rdata := t.rdata, sstat := t.sstat, cmdstat := { s.cmdstat with code := .noError } })

/-- 43 R220, R221, R227 to R230: in every state SLAVE_SET_ADDRESS writes SADDR, and the slave accessors
return the index as the CSR shows it, or clear it keeping ptr and cap. -/
def Obligations.SlaveAddressAndBufferAccessors : Prop :=
  ∀ s : State,
    (∀ a7, exec (.slaveSetAddress a7) s =
      .next { s with saddr := a7, cmdstat := { s.cmdstat with code := .noError } }) ∧
    exec .slaveGetReadBufSize s = .next { s with
      rdata := readCsr s 0x50, cmdstat := { s.cmdstat with code := .noError } } ∧
    exec .slaveGetWriteBufSize s = .next { s with
      rdata := readCsr s 0x5C, cmdstat := { s.cmdstat with code := .noError } } ∧
    exec .slaveClearReadBuf s = .next { s with
      srd := ⟨s.srd.ptr, s.srd.cap, 0⟩, cmdstat := { s.cmdstat with code := .noError } } ∧
    exec .slaveClearWriteBuf s = .next { s with
      swr := ⟨s.swr.ptr, s.swr.cap, 0⟩, cmdstat := { s.cmdstat with code := .noError } }

/-! ### CSR window and reset -/

/-- 10_state R22, R25, R29, R30, R37 to R43, 30_encoding R97: the word a host reads at each offset of the
window, every field at its place and every undefined bit 0; CMD and the reserved offsets read 0. That PTR
and the descriptor pointers read 0 above AW, and CNT, capacities and indices above CNT_W, is under the
invariants of R45. -/
def Obligations.CsrFieldLayout : Prop :=
  ∀ s : State,
    let code := match s.cmdstat.code with
      | .noError => 0 | .busBusy => 1 | .notReady => 2 | .lbNak => 3 | .arbLost => 4
      | .startAborted => 5 | .timeout => 6 | .illegal => 7
    let bus := match s.bus with
      | .idle => 0 | .mwa => 1 | .mwd => 2 | .mra => 3 | .mrd => 4 | .mh => 5 | .swd => 6 | .srd => 7
    let dir := match s.mmode.dir with | .write => 0 | .read => 1
    (readCsr s 0x04).toNat = s.cmdstat.busy.toNat + 2 ^ 1 * s.cmdstat.ovr.toNat +
      2 ^ 2 * s.cmdstat.wstop.toNat + 2 ^ 8 * code + 2 ^ 16 * s.cmdstat.lastop.toNat ∧
    readCsr s 0x08 = s.rdata ∧ readCsr s 0x0C = s.ptr ∧ (readCsr s 0x10).toNat = s.cnt.toNat ∧
    (readCsr s 0x14).toNat = bus + 2 ^ 8 * s.en.toNat + 2 ^ 9 * s.stopIe.toNat +
      2 ^ 10 * s.inited.toNat + 2 ^ 11 * s.fatal.toNat + 2 ^ 12 * s.desync.toNat +
      2 ^ 16 * s.busBusy.toNat ∧
    (readCsr s 0x18).toNat = s.mstat.rdCmplt.toNat + 2 ^ 1 * s.mstat.wrCmplt.toNat +
      2 ^ 2 * s.mstat.xferInp.toNat + 2 ^ 3 * s.mstat.xferHalt.toNat +
      2 ^ 4 * s.mstat.errShortXfer.toNat + 2 ^ 5 * s.mstat.errAddrNak.toNat +
      2 ^ 6 * s.mstat.errArbLost.toNat + 2 ^ 7 * s.mstat.errXfer.toNat ∧
    (readCsr s 0x1C).toNat = s.sstat.rdCmplt.toNat + 2 ^ 1 * s.sstat.rdBusy.toNat +
      2 ^ 2 * s.sstat.rdOvfl.toNat + 2 ^ 4 * s.sstat.wrCmplt.toNat + 2 ^ 5 * s.sstat.wrBusy.toNat +
      2 ^ 6 * s.sstat.wrOvfl.toNat ∧
    (readCsr s 0x20).toNat = s.saddr.toNat ∧
    (readCsr s 0x24).toNat = s.mmode.mode.repeatStart.toNat + 2 ^ 1 * s.mmode.mode.noStop.toNat +
      2 ^ 8 * dir + 2 ^ 16 * s.mmode.addr.toNat ∧
    (readCsr s 0x28).toNat = s.data.toNat ∧ (readCsr s 0x2C).toNat = s.clkdiv.toNat ∧
    (readCsr s 0x30 = s.mrd.ptr ∧ (readCsr s 0x34).toNat = s.mrd.cap.toNat ∧
      (readCsr s 0x38).toNat = s.mrd.idx.toNat) ∧
    (readCsr s 0x3C = s.mwr.ptr ∧ (readCsr s 0x40).toNat = s.mwr.cap.toNat ∧
      (readCsr s 0x44).toNat = s.mwr.idx.toNat) ∧
    (readCsr s 0x48 = s.srd.ptr ∧ (readCsr s 0x4C).toNat = s.srd.cap.toNat ∧
      (readCsr s 0x50).toNat = s.srd.idx.toNat) ∧
    (readCsr s 0x54 = s.swr.ptr ∧ (readCsr s 0x58).toNat = s.swr.cap.toNat ∧
      (readCsr s 0x5C).toNat = s.swr.idx.toNat) ∧
    readCsr s 0x00 = 0 ∧ (∀ off, 0x60 ≤ off → readCsr s off = 0) ∧
    (s.Inv →
      (∀ off ∈ [0x0C, 0x30, 0x3C, 0x48, 0x54], (readCsr s off).toNat < 2 ^ s.cfg.aw) ∧
      (∀ off ∈ [0x10, 0x34, 0x38, 0x40, 0x44, 0x4C, 0x50, 0x58, 0x5C],
        (readCsr s off).toNat < 2 ^ s.cfg.cntW))

/-- 10_state R22, R23, 20_memory R64, 60 R275: a word the host writes at CSR_BASE + 4k reaches the register at
offset 4k. A write to PTR, CNT or CLKDIV replaces the defined bits, kept by truncation and read back so; a
write to any other offset but CMD is ignored. While FATAL=1 every write is ignored: that R275's frozen holds
of PTR, CNT and CLKDIV too, where R23 names CMD alone, is the model's choice (log 15), and so is that any
CSR_BASE and a window past 2^AW are taken as they are (log 27, log 28). -/
def Obligations.CsrWritesKeepDefinedBits : Prop :=
  (∀ (s : State) (v : Word) (k : Nat), k < 64 → s.cfg.csrBase.toNat + 256 ≤ 2 ^ 32 →
    hostWrite (s.cfg.csrBase + BitVec.ofNat 32 (4 * k)) .bits32 v s = writeCsr (4 * k) v s) ∧
  (∀ (s : State) (v : Word), writeCsr 0x00 v s = cmdWrite v s) ∧
  (∀ (s : State) (v : Word) (off : Nat), s.fatal = true → writeCsr off v s = .next s) ∧
  (∀ (s : State) (v : Word) (off : Nat), s.cfg.wf = true → s.fatal = false →
    (∃ t, writeCsr 0x0C v s = .next t ∧ (readCsr t 0x0C).toNat = v.toNat % 2 ^ s.cfg.aw ∧
      t = { s with ptr := t.ptr }) ∧
    (∃ t, writeCsr 0x10 v s = .next t ∧ (readCsr t 0x10).toNat = v.toNat % 2 ^ s.cfg.cntW ∧
      t = { s with cnt := t.cnt }) ∧
    (∃ t, writeCsr 0x2C v s = .next t ∧ (readCsr t 0x2C).toNat = v.toNat % 2 ^ 16 ∧
      t = { s with clkdiv := t.clkdiv }) ∧
    (off ≠ 0x00 → off ≠ 0x0C → off ≠ 0x10 → off ≠ 0x2C → writeCsr off v s = .next s))

/-- 10_state R49, 20_memory R64: an aligned 32-bit host read changes no state of the core, memory, history
or descriptor included; only the word handed to the host, the register at that offset. Any CSR access of
8 or 16 bits, or unaligned, is refused. That alignment is measured from CSR_BASE, whatever CSR_BASE is, and
that a window past 2^AW, but not past 2^32, is reached whole, is the model's choice (log 27, log 28). -/
def Obligations.HostReadsChangeNothing : Prop :=
  (∀ (s : State) (k : Nat), k < 64 → s.cfg.csrBase.toNat + 256 ≤ 2 ^ 32 →
    hostRead (s.cfg.csrBase + BitVec.ofNat 32 (4 * k)) .bits32 s =
      .next { s with hostData := readCsr s (4 * k) }) ∧
  (∀ (s : State) (addr : Word) (k : AccessWidth) (v : Word),
    s.cfg.csrBase.toNat ≤ addr.toNat → addr.toNat < s.cfg.csrBase.toNat + 256 →
    (k ≠ .bits32 ∨ (addr.toNat - s.cfg.csrBase.toNat) % 4 ≠ 0) →
    hostRead addr k s = .refused .undefinedCsrAccess ∧
      hostWrite addr k v s = .refused .undefinedCsrAccess)

/-- 10_state R47: the value of every element of the core after the reset input, in every configuration and
state. Beside that rule, R300 and R301: both histories empty, and buffer memory as it was. -/
def Obligations.ResetLeavesTheResetValues : Prop :=
  ∀ (s : State) (level : Bool) (rest : List Input), s.inputs = ⟨level, .reset⟩ :: rest →
    ∃ t, step s = .next t ∧ t.bus = .idle ∧ t.en = false ∧ t.stopIe = false ∧ t.inited = false ∧
      t.fatal = false ∧ t.desync = false ∧ readCsr t 0x18 = 0 ∧ readCsr t 0x1C = 0 ∧
      t.saddr = s.cfg.defaultSaddr ∧ readCsr t 0x24 = 0 ∧ t.data = 0 ∧
      t.clkdiv = s.cfg.clkdivDefault ∧ (∀ b, t.buf b = ⟨0, 0, 0⟩) ∧ t.ptr = 0 ∧ t.cnt = 0 ∧
      readCsr t 0x04 = 0 ∧ t.marg = false ∧ t.rdata = 0 ∧ t.actions = [] ∧ t.memHist = [] ∧
      t.mem = s.mem

/-! ### Event engine: delivery, timeout, desync -/

/-- 40 R101 with 30_encoding R93, R94: the bits of a snapshot, masked by the configuration, and which
snapshots are discarded without any effect. -/
def Obligations.UndeliverableSnapshotsAreDiscarded : Prop :=
  ∀ (s : State) (w : SnapWord) (r : PortReply),
    (s.en = false ∨ s.fatal = true ∨
      (w.getLsbD 0 = false ∧ (w.getLsbD 3 = false ∨ s.cfg.multiMaster = false) ∧
        (w.getLsbD 5 = false ∨ s.cfg.multiMaster = false) ∧
        (w.getLsbD 6 = false ∨ s.cfg.timeoutEn = false) ∧
        (w.getLsbD 4 = false ∨
          (s.stopIe = false ∧ (s.cmdstat.busy = false ∨ s.cmdstat.wstop = false))))) →
    eventStep w r s = .next s

/-- 30_encoding R94: what the configuration lacks is read as 0, and bit 7 is ignored: snapshots that differ
only there have the same step. -/
def Obligations.MaskedSnapshotBitsAreNotRead : Prop :=
  ∀ (s : State) (w v : SnapWord) (r : PortReply),
    (∀ k, k < 16 → k ≠ 7 → (k = 3 ∨ k = 5 → s.cfg.multiMaster = true) →
      (k = 6 → s.cfg.timeoutEn = true) → w.getLsbD k = v.getLsbD k) →
    eventStep w r s = eventStep v r s

/-- 40 R104: a delivered TIMEOUT recovers from any state, whatever else the snapshot carries. -/
def Obligations.TimeoutRecovers : Prop :=
  ∀ (s : State) (e : Snap) (r : PortReply), s.en = true → s.fatal = false → e.timeout = true →
    eventStepOn e r s = .next { s with
      mstat := { s.mstat with errXfer := s.mstat.errXfer || s.mstat.xferInp, xferInp := false }
      sstat := { s.sstat with rdBusy := false, wrBusy := false }
      stopIe := false
      desync := false
      bus := .idle
      actions := s.actions ++ [.release]
      cmdstat :=
        if s.cmdstat.busy = true then
          { s.cmdstat with busy := false, wstop := false, code := .timeout }
        else s.cmdstat }

/-- 40 R105: with DESYNC=1 every snapshot without TIMEOUT changes nothing and emits nothing. -/
def Obligations.DesynchronisedCoreDiscardsSnapshots : Prop :=
  ∀ (s : State) (e : Snap) (r : PortReply), s.desync = true → e.timeout = false →
    eventStepOn e r s = .next s

/-- 40 R102, R106; 60 R275, R276: whenever an event step sets FATAL or DESYNC, it changes nothing else and
emits nothing; which of the two it sets is TIMEOUT_EN's choice. A step of the kind "fault" (00_scope R7)
is a snapshot that does so, and it leaves no final state. -/
def Obligations.DesyncDropsTheWholeStep : Prop :=
  (∀ (s t : State) (w : SnapWord) (r : PortReply), eventStep w r s = .next t →
    (s.fatal = false → t.fatal = true → s.cfg.timeoutEn = false ∧ t = { s with fatal := true }) ∧
    (s.desync = false → t.desync = true → s.cfg.timeoutEn = true ∧ t = { s with desync := true })) ∧
  (∀ s : State, stepKind s = .fault → s.cfg.timeoutEn = false ∧
    ∃ level w r rest, s.inputs = ⟨level, .snapshot w r⟩ :: rest ∧
      step s = settle (.next { s with inputs := rest, busBusy := level, fatal := true }) ∧
      ∀ t, step s = .next t → t.final = false)

/-- 60 R274 (1) to (9), with the precedence of 40 R107 (log 13): with no manual command pending, the
delivered snapshots that desync are exactly those listed. -/
def Obligations.DesyncExactlyOnTheListedSnapshots : Prop :=
  ∀ (s : State) (e : Snap) (r : PortReply), s.receptive → s.deliverable e = true →
    e.timeout = false →
    let arb := e.lostArb = true ∨ e.startAbort = true
    let master := s.bus = .mwa ∨ s.bus = .mwd ∨ s.bus = .mra ∨ s.bus = .mrd ∨ s.bus = .mh
    (eventStepOn e r s =
        .next (if s.cfg.timeoutEn = true then { s with desync := true } else { s with fatal := true }) ↔
      (arb ∧ master ∧ (s.mstat.xferInp = false ∨ s.bus = .mh)) ∨
      (e.startAbort = true ∧ e.lostArb = false ∧ (s.bus = .mwd ∨ s.bus = .mrd)) ∨
      (¬ arb ∧ master ∧ e.saddr = true) ∨
      (¬ arb ∧ master ∧ e.bc = true ∧
        (s.stopIe = true ∨ s.mstat.xferInp = false ∨ s.bus = .mh)) ∨
      (¬ arb ∧ s.bus = .mrd ∧ e.bc = true ∧ s.mrd.cap.toNat ≤ s.mrd.idx.toNat) ∨
      (arb ∧ ¬ master) ∨
      (¬ master ∧ e.bc = true ∧ e.saddr = true ∧ s.cfg.slaveEn = false) ∨
      (s.bus = .idle ∧ e.bc = true ∧ e.saddr = false) ∨
      (¬ master ∧ e.saddr = true ∧ e.bc = false))

/-- 60 R274 (10), 42 R196, R201: the snapshots that desync while a manual command is pending. -/
def Obligations.PendingCommandDesyncsExactlyOnTheListedSnapshots : Prop :=
  ∀ (s : State) (e : Snap) (r : PortReply), s.awaiting → s.deliverable e = true →
    e.timeout = false →
    let arb := e.lostArb = true ∨ e.startAbort = true
    let address := s.cmdstat.lastop = 0x12 ∨ s.cmdstat.lastop = 0x13
    (eventStepOn e r s =
        .next (if s.cfg.timeoutEn = true then { s with desync := true } else { s with fatal := true }) ↔
      (¬ arb ∧ e.saddr = true) ∨
      (¬ arb ∧ s.cmdstat.wstop = true ∧ e.bc = true) ∨
      (¬ arb ∧ s.cmdstat.wstop = false ∧ e.bc = false) ∨
      (¬ arb ∧ s.cmdstat.wstop = false ∧ e.stop = true ∧ ¬ (address ∧ e.nak = true)) ∨
      (e.startAbort = true ∧ e.lostArb = false ∧
        ¬ (address ∧ s.cmdstat.wstop = false ∧ (s.bus = .mwa ∨ s.bus = .mra))))

/-! ### Event engine: master role -/

/-- 40 R110, R115: at the ACK of the address or of a data byte, with bytes left, the next buffer byte is
read, put in DATA and sent, and the index advances by 1. -/
def Obligations.MasterWriteSendsTheNextByte : Prop :=
  ∀ (s : State) (e : Snap), s.Inv → s.inFlight → e.dataByte → e.nak = false →
    s.bus = .mwa ∨ s.bus = .mwd → s.mwr.idx.toNat < s.mwr.cap.toNat →
    let a := s.mwr.ptr.toNat + s.mwr.idx.toNat
    eventStepOn e .grant s = .next { s with
      bus := .mwd
      data := s.portByte a
      actions := s.actions ++ [.tx (s.portByte a)]
      mwr := ⟨s.mwr.ptr, s.mwr.cap, s.mwr.idx + 1⟩
      memHist := s.memHist ++ [.read a]
      draws := s.drawsAfter (s.raceAlts a) }

/-- 40 R113, R114, R115, R116: with every byte sent, ACK or NAK alike finish the transfer: a Stop is
emitted and awaited, or Halted entered with NO_STOP. From the address ACK of a zero-length write the
same happens, in MWD as R110 says; that row 7 of R143, which says MWA, yields to it is deduced (log 12). -/
def Obligations.MasterWriteFinishesAfterTheLastByte : Prop :=
  ∀ (s : State) (e : Snap) (r : PortReply), s.inFlight → e.dataByte →
    (s.bus = .mwd ∨ (s.bus = .mwa ∧ e.nak = false)) → s.mwr.cap.toNat ≤ s.mwr.idx.toNat →
    (s.mmode.mode.noStop = false → eventStepOn e r s = .next { s with
      bus := .mwd
      actions := s.actions ++ [.stop]
      stopIe := true }) ∧
    (s.mmode.mode.noStop = true → eventStepOn e r s = .next { s with
      bus := .mh
      mstat := { s.mstat with wrCmplt := true, xferHalt := true, xferInp := false } })

/-- 40 R112 and R116 (short): a NAK of the address, or of a data byte with bytes left, records its error
with ERR_XFER and finishes the transfer as its mode says; no byte moves. -/
def Obligations.MasterNaksAreRecorded : Prop :=
  ∀ (s : State) (e : Snap) (r : PortReply), s.inFlight → e.dataByte → e.nak = true →
    (s.bus = .mwa → s.mmode.mode.noStop = false → eventStepOn e r s = .next { s with
      mstat := { s.mstat with errAddrNak := true, errXfer := true }
      actions := s.actions ++ [.stop], stopIe := true }) ∧
    (s.bus = .mra → s.mmode.mode.noStop = false → eventStepOn e r s = .next { s with
      mstat := { s.mstat with errAddrNak := true, errXfer := true }
      actions := s.actions ++ [.stop], stopIe := true }) ∧
    (s.bus = .mwa → s.mmode.mode.noStop = true → eventStepOn e r s = .next { s with
      bus := .mh
      mstat := { s.mstat with
        errAddrNak := true, errXfer := true, wrCmplt := true, xferHalt := true, xferInp := false } }) ∧
    (s.bus = .mra → s.mmode.mode.noStop = true → eventStepOn e r s = .next { s with
      bus := .mh
      mstat := { s.mstat with
        errAddrNak := true, errXfer := true, rdCmplt := true, xferHalt := true, xferInp := false } }) ∧
    (s.bus = .mwd → s.mwr.idx.toNat < s.mwr.cap.toNat → s.mmode.mode.noStop = false →
      eventStepOn e r s = .next { s with
        mstat := { s.mstat with errShortXfer := true, errXfer := true }
        actions := s.actions ++ [.stop], stopIe := true }) ∧
    (s.bus = .mwd → s.mwr.idx.toNat < s.mwr.cap.toNat → s.mmode.mode.noStop = true →
      eventStepOn e r s = .next { s with
        bus := .mh
        mstat := { s.mstat with
          errShortXfer := true, errXfer := true, wrCmplt := true, xferHalt := true,
          xferInp := false } })

/-- 40 R111, R117, R118: the address ACK of a read asks for a byte, or finishes a zero-length read; a
received byte is stored at ptr + idx and ACKed while room remains, the last one NAKed and the transfer
finished. Every other byte of memory is as before. -/
def Obligations.MasterReadStoresAndArbitrates : Prop :=
  ∀ (s : State) (e : Snap), s.Inv → s.inFlight → e.dataByte →
    (s.bus = .mra → e.nak = false → s.mrd.cap ≠ 0 → eventStepOn e .grant s = .next { s with
      bus := .mrd, actions := s.actions ++ [.rx] }) ∧
    (s.bus = .mra → e.nak = false → s.mrd.cap = 0 → s.mmode.mode.noStop = false →
      eventStepOn e .grant s = .next { s with
        bus := .mrd, actions := s.actions ++ [.stop], stopIe := true }) ∧
    (s.bus = .mra → e.nak = false → s.mrd.cap = 0 → s.mmode.mode.noStop = true →
      eventStepOn e .grant s = .next { s with
        bus := .mh
        mstat := { s.mstat with rdCmplt := true, xferHalt := true, xferInp := false } }) ∧
    (s.bus = .mrd → s.mrd.idx.toNat < s.mrd.cap.toNat →
      let a := s.mrd.ptr.toNat + s.mrd.idx.toNat
      let last := s.mrd.idx.toNat + 1 = s.mrd.cap.toNat
      ∃ t, eventStepOn e .grant s = .next t ∧
        (∀ b, b ≠ a → Memory.read t.mem b = Memory.read s.mem b) ∧
        (s.raceAlts a = [] → Memory.read t.mem a = e.rx) ∧
        t = { s with
          mem := t.mem
          draws := s.drawsAfter (s.storeAlts a)
          memHist := s.memHist ++ [.write a e.rx]
          data := e.rx
          mrd := ⟨s.mrd.ptr, s.mrd.cap, s.mrd.idx + 1⟩
          bus := if last ∧ s.mmode.mode.noStop = true then .mh else .mrd
          stopIe := decide (last ∧ s.mmode.mode.noStop = false)
          mstat :=
            if last ∧ s.mmode.mode.noStop = true then
              { s.mstat with rdCmplt := true, xferHalt := true, xferInp := false }
            else s.mstat
          actions := s.actions ++
            (if last then (if s.mmode.mode.noStop = true then [.nak] else [.nak, .stop])
             else [.ack, .rx]) })

/-- 40 R119: a Stop in a master state that awaits it completes the transfer of its direction; the error
bits are kept, nothing is emitted. -/
def Obligations.StopCompletesTheMasterTransfer : Prop :=
  ∀ (s : State) (e : Snap) (r : PortReply), s.receptive → s.stopIe = true →
    e.plain → e.bc = false → e.saddr = false → e.stop = true →
    (s.bus = .mwa ∨ s.bus = .mwd → eventStepOn e r s = .next { s with
      mstat := { s.mstat with wrCmplt := true, xferInp := false }, stopIe := false, bus := .idle }) ∧
    (s.bus = .mra ∨ s.bus = .mrd → eventStepOn e r s = .next { s with
      mstat := { s.mstat with rdCmplt := true, xferInp := false }, stopIe := false, bus := .idle })

/-- 40 R107, R125, R127: a Stop that arrives with a data byte is processed after it, against the state the
byte left: the step is the byte's own step, then the Stop's completion of the master transfer (R119) or of
the open slave channel (R128, R129); after a slave read's NAK the Stop finds Idle and does nothing. -/
def Obligations.StopWithAByteComesAfterTheByte : Prop :=
  (∀ (s t : State) (e : Snap) (r : PortReply), s.inFlight → e.dataByte →
    s.bus.isMaster = true → eventStepOn e r s = .next t → t.fatal = false → t.desync = false →
    eventStepOn { e with stop := true } r s = .next { t with
      mstat :=
        match t.bus, t.mmode.dir with
        | .mwa, _ | .mwd, _ | .mh, .write => { t.mstat with wrCmplt := true, xferInp := false }
        | _, _ => { t.mstat with rdCmplt := true, xferInp := false }
      stopIe := false
      bus := .idle }) ∧
  (∀ (s t : State) (e : Snap) (r : PortReply), s.receptive → e.dataByte → eventStepOn e r s = .next t →
    (s.bus = .swd → eventStepOn { e with stop := true } r s = .next { t with
      sstat := { t.sstat with wrCmplt := true, wrBusy := false }, stopIe := false, bus := .idle }) ∧
    (s.bus = .srd → e.nak = false → eventStepOn { e with stop := true } r s = .next { t with
      sstat := { t.sstat with rdCmplt := true, rdBusy := false }, bus := .idle }) ∧
    (s.bus = .srd → e.nak = true → eventStepOn { e with stop := true } r s = .next t))

/-- 40 R108: lost arbitration (in any transfer state) and Start abort (in an address state) of a transfer in
flight: Idle, the error bits, no completion bit; and a slave address carried along then runs the address
path as from Idle: the step is that of the bare address byte there. -/
def Obligations.LosingTheBusEndsTheTransfer : Prop :=
  ∀ (s : State) (e : Snap) (r : PortReply), s.receptive → s.mstat.xferInp = true →
    s.bus ≠ .mh → s.bus.isMaster = true → e.timeout = false →
    (e.lostArb = true ∨ (e.startAbort = true ∧ (s.bus = .mwa ∨ s.bus = .mra))) →
    let t := { s with
      mstat := { s.mstat with
        errXfer := true, errArbLost := s.mstat.errArbLost || e.lostArb, xferInp := false }
      actions := s.actions ++ (if e.lostArb = true then [.release] else [])
      stopIe := false
      bus := .idle }
    ((e.bc = false ∨ e.saddr = false ∨ s.cfg.slaveEn = false) → eventStepOn e r s = .next t) ∧
    (e.bc = true → e.saddr = true → s.cfg.slaveEn = true →
      eventStepOn e r s = eventStepOn ⟨true, true, false, false, false, false, false, e.rx⟩ r t)

/-! ### Event engine: slave role -/

/-- 40 R125, R127 to R133, R141: an address byte in Idle or a slave state: an open channel is completed
first, then the address is compared; a mismatch is NAKed, a matched write opens the write channel. -/
def Obligations.SlaveAddressIsMatched : Prop :=
  ∀ (s : State) (e : Snap) (r : PortReply), s.receptive → e.plain → e.bc = true → e.saddr = true →
    s.bus.isMaster = false → s.cfg.slaveEn = true →
    let ss := match s.bus with
      | .swd => { s.sstat with wrCmplt := true, wrBusy := false }
      | .srd => { s.sstat with rdCmplt := true, rdBusy := false }
      | _ => s.sstat
    let ie := match s.bus with | .swd => false | _ => s.stopIe
    (addrPart e.rx ≠ s.saddr → eventStepOn e r s = .next { s with
      data := e.rx, sstat := ss, stopIe := ie, bus := .idle, actions := s.actions ++ [.nak] }) ∧
    (addrPart e.rx = s.saddr → dirPart e.rx = .write → eventStepOn e r s = .next { s with
      data := e.rx, sstat := { ss with wrBusy := true }, stopIe := true, bus := .swd
      actions := s.actions ++ [.ack] }) ∧
    (addrPart e.rx = s.saddr → dirPart e.rx = .read → s.srd.cap.toNat ≤ s.srd.idx.toNat →
      eventStepOn e r s = .next { s with
        data := 0xFF, sstat := { ss with rdBusy := true, rdOvfl := true }, stopIe := ie, bus := .srd
        actions := s.actions ++ [.ack, .tx 0xFF] }) ∧
    (s.Inv → r = .grant → addrPart e.rx = s.saddr → dirPart e.rx = .read →
      s.srd.idx.toNat < s.srd.cap.toNat →
      let a := s.srd.ptr.toNat + s.srd.idx.toNat
      eventStepOn e r s = .next { s with
        data := s.portByte a, sstat := { ss with rdBusy := true }, stopIe := ie, bus := .srd
        srd := ⟨s.srd.ptr, s.srd.cap, s.srd.idx + 1⟩
        memHist := s.memHist ++ [.read a]
        draws := s.drawsAfter (s.raceAlts a)
        actions := s.actions ++ [.ack, .tx (s.portByte a)] })

/-- 40 R129, R134 to R136: a slave read sends the next buffer byte at each ACK, the sentinel with RD_OVFL
once the buffer is exhausted, and ends at the master's NAK. -/
def Obligations.SlaveReadSendsBufferThenSentinel : Prop :=
  ∀ (s : State) (e : Snap), s.Inv → s.receptive → e.dataByte → s.bus = .srd →
    (e.nak = false → s.srd.idx.toNat < s.srd.cap.toNat →
      let a := s.srd.ptr.toNat + s.srd.idx.toNat
      eventStepOn e .grant s = .next { s with
        data := s.portByte a
        srd := ⟨s.srd.ptr, s.srd.cap, s.srd.idx + 1⟩
        memHist := s.memHist ++ [.read a]
        draws := s.drawsAfter (s.raceAlts a)
        actions := s.actions ++ [.tx (s.portByte a)] }) ∧
    (e.nak = false → s.srd.cap.toNat ≤ s.srd.idx.toNat → eventStepOn e .grant s = .next { s with
      data := 0xFF, sstat := { s.sstat with rdOvfl := true }, actions := s.actions ++ [.tx 0xFF] }) ∧
    (e.nak = true → eventStepOn e .grant s = .next { s with
      sstat := { s.sstat with rdCmplt := true, rdBusy := false }, bus := .idle })

/-- 40 R127, R128, R137: a slave write stores and ACKs while room remains, NAKs and discards with WR_OVFL
after, and ends at the Stop. Every byte of memory but the one stored is as before. -/
def Obligations.SlaveWriteStoresOrOverflows : Prop :=
  ∀ (s : State) (e : Snap), s.Inv → s.receptive → s.bus = .swd →
    (e.dataByte → s.swr.idx.toNat < s.swr.cap.toNat →
      let a := s.swr.ptr.toNat + s.swr.idx.toNat
      ∃ t, eventStepOn e .grant s = .next t ∧
        (∀ b, b ≠ a → Memory.read t.mem b = Memory.read s.mem b) ∧
        (s.raceAlts a = [] → Memory.read t.mem a = e.rx) ∧
        t = { s with
          mem := t.mem
          draws := s.drawsAfter (s.storeAlts a)
          memHist := s.memHist ++ [.write a e.rx]
          data := e.rx
          swr := ⟨s.swr.ptr, s.swr.cap, s.swr.idx + 1⟩
          actions := s.actions ++ [.ack] }) ∧
    (e.dataByte → s.swr.cap.toNat ≤ s.swr.idx.toNat → eventStepOn e .grant s = .next { s with
      data := e.rx, sstat := { s.sstat with wrOvfl := true }, actions := s.actions ++ [.nak] }) ∧
    (s.stopIe = true → e.plain → e.bc = false → e.saddr = false → e.stop = true →
      eventStepOn e .grant s = .next { s with
        sstat := { s.sstat with wrCmplt := true, wrBusy := false }, stopIe := false, bus := .idle })

/-! ### Event engine: completion of manual commands -/

/-- 42 R196 to R198: a pending Start or Restart completes at the ACK, in the data state; at a NAK exactly one
Stop is emitted and awaited, and the Stop completes it in Idle with LB_NAK, a MASTER_SEND_STOP with
NO_ERROR. A NAK and the Stop in one snapshot do both in one step. BUSY=0 makes MARG 0, and its latch stays
(log 11). -/
def Obligations.ManualAddressAndStopWaits : Prop :=
  ∀ (s : State) (e : Snap) (r : PortReply), s.awaiting → e.plain → e.saddr = false →
    (∀ op, (op = 0x12 ∨ op = 0x13) → s.cmdstat.lastop = op → s.cmdstat.wstop = false →
      e.bc = true → (s.bus = .mwa ∨ s.bus = .mra) →
      (e.nak = false → e.stop = false → eventStepOn e r s = .next { s with
        bus := if s.bus = .mwa then .mwd else .mrd
        cmdstat := { s.cmdstat with busy := false, code := .noError } }) ∧
      (e.nak = true → e.stop = false → eventStepOn e r s = .next { s with
        actions := s.actions ++ [.stop], cmdstat := { s.cmdstat with wstop := true } }) ∧
      (e.nak = true → e.stop = true → eventStepOn e r s = .next { s with
        bus := .idle
        actions := s.actions ++ [.stop]
        cmdstat := { s.cmdstat with busy := false, code := .lbNak } })) ∧
    (s.cmdstat.wstop = true → e.bc = false → e.stop = true → eventStepOn e r s = .next { s with
      bus := .idle
      cmdstat := { s.cmdstat with
        busy := false
        wstop := false
        code := if s.cmdstat.lastop = 0x14 then .noError else .lbNak } })

/-- 42 R199, R200: a pending write byte completes by its acknowledge bit; a pending read byte returns the
byte in RDATA and DATA and drives the acknowledge bit that MARG, latched at issue (R44), asks for. A NAK
either way leaves MH. BUSY=0 makes MARG 0, and its latch stays (log 11). -/
def Obligations.ManualByteWaits : Prop :=
  ∀ (s : State) (e : Snap) (r : PortReply), s.awaiting → e.dataByte → s.cmdstat.wstop = false →
    (s.cmdstat.lastop = 0x15 → s.bus = .mwd → eventStepOn e r s = .next { s with
      bus := if e.nak = true then .mh else .mwd
      cmdstat := { s.cmdstat with
        busy := false, code := if e.nak = true then .lbNak else .noError } }) ∧
    (s.cmdstat.lastop = 0x16 → s.bus = .mrd → eventStepOn e r s = .next { s with
      data := e.rx
      rdata := e.rx.setWidth 32
      bus := if s.marg = true then .mrd else .mh
      actions := s.actions ++ [if s.marg = true then .ack else .nak]
      cmdstat := { s.cmdstat with busy := false, code := .noError } })

/-- 42 R201: lost arbitration ends any pending manual command with ARB_LOST, a Start abort ends an address
wait with START_ABORTED; MSTAT is not written; and a slave address carried along then runs the address
path as from Idle. BUSY=0 makes MARG 0, and its latch stays (log 11). -/
def Obligations.ManualCommandLosesTheBus : Prop :=
  ∀ (s : State) (e : Snap) (r : PortReply), s.awaiting → e.timeout = false →
    (e.lostArb = true ∨ (e.startAbort = true ∧ (s.bus = .mwa ∨ s.bus = .mra) ∧
      (s.cmdstat.lastop = 0x12 ∨ s.cmdstat.lastop = 0x13) ∧ s.cmdstat.wstop = false)) →
    let t := { s with
      bus := .idle
      actions := s.actions ++ (if e.lostArb = true then [.release] else [])
      cmdstat := { s.cmdstat with
        busy := false
        wstop := false
        code := if e.lostArb = true then .arbLost else .startAborted } }
    ((e.bc = false ∨ e.saddr = false ∨ s.cfg.slaveEn = false) → eventStepOn e r s = .next t) ∧
    (e.bc = true → e.saddr = true → s.cfg.slaveEn = true →
      eventStepOn e r s = eventStepOn ⟨true, true, false, false, false, false, false, e.rx⟩ r t)

/-! ### Rules about the whole machine -/

/-- 40 R142: what the event engine never writes, the latch of MARG included (log 11); and CMDSTAT and RDATA,
which it writes only for a pending manual command. -/
def Obligations.EventEngineFrame : Prop :=
  ∀ (s t : State) (w : SnapWord) (r : PortReply), eventStep w r s = .next t →
    t.ptr = s.ptr ∧ t.cnt = s.cnt ∧ t.saddr = s.saddr ∧ t.mmode = s.mmode ∧ t.clkdiv = s.clkdiv ∧
    t.en = s.en ∧ t.inited = s.inited ∧ t.cmdstat.ovr = s.cmdstat.ovr ∧
    t.cmdstat.lastop = s.cmdstat.lastop ∧ t.marg = s.marg ∧ t.cfg = s.cfg ∧
    (∀ b, (t.buf b).ptr = (s.buf b).ptr ∧ (t.buf b).cap = (s.buf b).cap) ∧
    (s.cmdstat.busy = false → t.cmdstat = s.cmdstat ∧ t.rdata = s.rdata)

/-- 42 R190 (D38): manual commands never write MSTAT: not at issue, and not in the event steps taken
while one is pending, but for the timeout of a transfer in flight, which a pending command excludes. -/
def Obligations.ManualCommandsNeverWriteMstat : Prop :=
  (∀ (s t : State) (a7 : Addr7) (rw : Dir) (d : Byte) (k : Bool) (i : Instr),
    i ∈ [Instr.masterSendStart a7 rw, .masterSendRestart a7 rw, .masterSendStop, .masterWriteByte d,
      .masterReadByte k] → exec i s = .next t → t.mstat = s.mstat) ∧
  (∀ (s t : State) (w : SnapWord) (r : PortReply), s.Inv → s.cmdstat.busy = true →
    eventStep w r s = .next t → t.mstat = s.mstat)

/-- 20_memory R61: no command accesses buffer memory; every byte reads as before, and the memory history
is as before. -/
def Obligations.CommandsNeverAccessMemory : Prop :=
  ∀ (i : Instr) (s t : State), exec i s = .next t →
    (∀ a, Memory.read t.mem a = Memory.read s.mem a) ∧ t.mem = s.mem ∧ t.memHist = s.memHist

/-- 10_state R34, 60 R275: FATAL, once 1, stays 1 until the reset input; in every other step the core's
own state is frozen: every element of R20 and both histories. That this includes PTR, CNT and CLKDIV against
a host write is the model's choice (log 15). -/
def Obligations.OnlyResetLeavesFatal : Prop :=
  ∀ s t : State, s.fatal = true → s.nextIsReset = false → step s = .next t →
    t = { s with
      mem := t.mem, busBusy := t.busBusy
      inputs := t.inputs, hostData := t.hostData, races := t.races, draws := t.draws }

/-- 60 R272, 10_state R37, R38: a sticky bit of MSTAT or SSTAT is cleared only by its clear command, by
INIT (or START running INIT's effects), or by reset. -/
def Obligations.StickyBitsClearedOnlyByTheirCommands : Prop :=
  ∀ s t : State, step s = .next t → s.nextIsReset = false →
    s.nextCommand ≠ some .init → s.nextCommand ≠ some .start →
    (s.nextCommand ≠ some .masterClearStatus →
      (s.mstat.rdCmplt = true → t.mstat.rdCmplt = true) ∧
      (s.mstat.wrCmplt = true → t.mstat.wrCmplt = true) ∧
      (s.mstat.xferHalt = true → t.mstat.xferHalt = true) ∧
      (s.mstat.errShortXfer = true → t.mstat.errShortXfer = true) ∧
      (s.mstat.errAddrNak = true → t.mstat.errAddrNak = true) ∧
      (s.mstat.errArbLost = true → t.mstat.errArbLost = true) ∧
      (s.mstat.errXfer = true → t.mstat.errXfer = true)) ∧
    (s.nextCommand ≠ some .slaveClearReadStatus →
      (s.sstat.rdCmplt = true → t.sstat.rdCmplt = true) ∧
      (s.sstat.rdOvfl = true → t.sstat.rdOvfl = true)) ∧
    (s.nextCommand ≠ some .slaveClearWriteStatus →
      (s.sstat.wrCmplt = true → t.sstat.wrCmplt = true) ∧
      (s.sstat.wrOvfl = true → t.sstat.wrOvfl = true)) ∧
    (s.cmdstat.ovr = true → t.cmdstat.ovr = true)

/-- 10_state R27, R28, R39, R44: PTR and CNT change only by a host write to them, SADDR only by
SLAVE_SET_ADDRESS and INIT (or START running INIT's effects), the latch of MARG (log 11) only by a manual
command, and each of them by reset. -/
def Obligations.OperandAndAddressRegistersHaveOneWriter : Prop :=
  ∀ s t : State, step s = .next t → s.nextIsReset = false →
    (s.nextCsrWrite ≠ some 0x0C → t.ptr = s.ptr) ∧
    (s.nextCsrWrite ≠ some 0x10 → t.cnt = s.cnt) ∧
    ((∀ a7, s.nextCommand ≠ some (.slaveSetAddress a7)) → s.nextCommand ≠ some .init →
      s.nextCommand ≠ some .start → t.saddr = s.saddr) ∧
    ((∀ i, s.nextCommand = some i → i.opcode.toNat < 0x12 ∨ 0x16 < i.opcode.toNat) → t.marg = s.marg)

/-- 10_state R36: only MASTER_WRITE_BUF, MASTER_READ_BUF and MASTER_SEND_START read BUS_BUSY: every other
command and every event step is the same whatever the level. -/
def Obligations.BusBusyIsReadByThreeCommandsOnly : Prop :=
  (∀ (i : Instr) (s t : State) (b : Bool), (∀ a7 m, i ≠ .masterWriteBuf a7 m) →
    (∀ a7 m, i ≠ .masterReadBuf a7 m) → (∀ a7 rw, i ≠ .masterSendStart a7 rw) →
    exec i s = .next t → exec i { s with busBusy := b } = .next { t with busBusy := b }) ∧
  (∀ (w : SnapWord) (r : PortReply) (s t : State) (b : Bool), eventStep w r s = .next t →
    eventStep w r { s with busBusy := b } = .next { t with busBusy := b })

/-- 10_state R42: no rule of the core reads CLKDIV: what a command or an event step does is the same
whatever CLKDIV holds, but for CLKDIV itself. -/
def Obligations.ClkdivIsNeverRead : Prop :=
  (∀ (i : Instr) (s t : State) (v : BitVec 16), exec i s = .next t →
    ∃ v', exec i { s with clkdiv := v } = .next { t with clkdiv := v' }) ∧
  (∀ (w : SnapWord) (r : PortReply) (s t : State) (v : BitVec 16), eventStep w r s = .next t →
    eventStep w r { s with clkdiv := v } = .next { t with clkdiv := v })

/-- 10_state R48, 30_encoding R96: both histories are appended to, never rewritten, by every step but
reset. -/
def Obligations.HistoriesOnlyGrow : Prop :=
  ∀ s t : State, step s = .next t → s.nextIsReset = false →
    (∃ l, t.actions = s.actions ++ l) ∧ (∃ l, t.memHist = s.memHist ++ l)

/-- 20_memory R70, 93 I9: host accesses to a byte. A byte no owned buffer covers is stored and loaded plainly.
A store to a byte the engine may send leaves memory with the new byte, and the engine reads there the new
byte, the old one, or one that raced before. Of a byte the engine may store, a host store and an engine
store leave one of the bytes that raced, and a host load returns some byte: free values (log 9, log 10).
Every other byte is as before; an address outside the space faults (log 18). -/
def Obligations.RacingReadIsTheOldOrTheNewByte : Prop :=
  (∀ (s : State) (a : Nat), s.raceAlts a = [] → s.portByte a = Memory.read s.mem a) ∧
  (∀ (s : State) (addr : Word) (v : Byte), Memory.wf s.mem = true → addr.toNat < 2 ^ s.cfg.aw →
    let a := addr.toNat
    ∃ t, hostStore addr v s = .next t ∧
      t = { s with mem := t.mem, races := t.races, draws := t.draws } ∧
      (∀ b, b ≠ a → Memory.read t.mem b = Memory.read s.mem b ∧ t.raceAlts b = s.raceAlts b) ∧
      (s.owns a = false → Memory.read t.mem a = v ∧ t.races = s.races ∧ t.draws = s.draws) ∧
      (s.owns a = true → s.mayWrite a = false → Memory.read t.mem a = v ∧ t.draws = s.draws ∧
        (t.portByte a = v ∨ t.portByte a = Memory.read s.mem a ∨ t.portByte a ∈ s.raceAlts a)) ∧
      (s.mayWrite a = true → (Memory.read t.mem a = v ∨ Memory.read t.mem a = Memory.read s.mem a) ∧
        v ∈ t.raceAlts a ∧ Memory.read s.mem a ∈ t.raceAlts a)) ∧
  (∀ (s t : State) (a : Nat) (v : Byte), Memory.wf s.mem = true → s.memWrite .grant a v = .ok t →
    Memory.read t.mem a = v ∨ (s.raceAlts a ≠ [] ∧
      (Memory.read t.mem a = Memory.read s.mem a ∨ Memory.read t.mem a ∈ s.raceAlts a))) ∧
  (∀ (s : State) (addr : Word), addr.toNat < 2 ^ s.cfg.aw →
    (s.mayWrite addr.toNat = false → hostLoad addr s = .next { s with
      hostData := (Memory.read s.mem addr.toNat).setWidth 32 }) ∧
    (s.mayWrite addr.toNat = true → ∃ b : Byte, hostLoad addr s = .next { s with
      hostData := b.setWidth 32, draws := s.draws + 1 })) ∧
  (∀ (s : State) (addr : Word) (v : Byte), 2 ^ s.cfg.aw ≤ addr.toNat →
    hostStore addr v s = .fault .outsideBufferSpace ∧ hostLoad addr s = .fault .outsideBufferSpace)

/-- 40 R140: with HW_ADDR_DECODE=1 and a PHY that keeps its side, the comparison always matches: no address
byte is ever NAKed as a mismatch, so the core ends in a slave state. -/
def Obligations.HardwareDecodeAlwaysMatches : Prop :=
  ∀ (s t : State) (w : SnapWord) (r : PortReply), s.receptive → s.bus.isMaster = false →
    s.cfg.slaveEn = true → s.cfg.hwAddrDecode = true → phyKeepsSide s w = true →
    (snapOf s.cfg w).plain → (snapOf s.cfg w).bc = true → (snapOf s.cfg w).saddr = true →
    eventStep w r s = .next t → t.bus = .swd ∨ t.bus = .srd

/-! ### Invariants and runs -/

/-- The invariant holds after reset, in every configuration and with any inputs and canonical memory. -/
def Obligations.ResetStateHasTheInvariants : Prop :=
  (∀ (c : Config) (l : List Input) (m : Memory), Memory.wf m = true →
    State.Inv { State.resetWith c with inputs := l, mem := m }) ∧ State.Inv State.reset

/-- 10_state R45: every step of every agent keeps the invariants I1 to I8 (with the facts beside them in
`State.Inv`), from every state that has them. -/
def Obligations.EveryStepKeepsTheInvariants : Prop :=
  ∀ s t : State, s.Inv → step s = .next t → t.Inv

/-- 20_memory R62, R68: from a state of the invariant, an event step is never stuck and never refused while
the launch memory admits its access: every effective address exists. A refused access leaves the
engine stuck with no next state, or the step makes no access and is the same. -/
def Obligations.EventStepsStopOnlyOnARefusedAccess : Prop :=
  ∀ (s : State) (w : SnapWord), s.Inv →
    (∃ t, eventStep w .grant s = .next t) ∧
    (eventStep w .refuse s = .fault .memoryRefused ∨ eventStep w .refuse s = eventStep w .grant s) ∧
    (∀ t, eventStep w .grant s = .next t → t.memHist ≠ s.memHist →
      eventStep w .refuse s = .fault .memoryRefused ∧
      eventStep w .device s = .refused .deviceBuffer)

/-- The property of W2 (95_test_vectors; the source's §8) for every count: a write armed for n bytes,
n + 1 byte snapshots all ACKed and one Stop leave the index at n, WR_CMPLT set and no other MSTAT bit
changed but XFER_INP, Idle, memory as it was; and the buffer's bytes went out in order, then STOP. The
number of snapshots is the rules' (log 14). -/
def Obligations.BufferedWriteRunsToCompletion : Prop :=
  ∀ (s : State) (level : Bool) (rest : List Input) (n : Nat), s.Inv → s.inFlight → s.bus = .mwa →
    s.mwr.idx = 0 → s.mwr.cap.toNat = n → s.mmode.mode.noStop = false → s.races = [] →
    s.inputs = List.replicate (n + 1) ⟨level, .snapshot 0x0001#16 .grant⟩ ++
      ⟨level, .snapshot 0x0010#16 .grant⟩ :: rest →
    ∃ t, core.run (n + 2) s = .next t ∧ t.bus = .idle ∧ t.stopIe = false ∧ t.mwr.idx.toNat = n ∧
      t.mstat = { s.mstat with wrCmplt := true, xferInp := false } ∧ t.mem = s.mem ∧
      t.inputs = rest ∧
      t.actions = s.actions ++
        (List.range n).map (fun k => Action.tx (Memory.read s.mem (s.mwr.ptr.toNat + k))) ++ [.stop]
end

