-- ==== Sys2Proof/Laws/Decode.lean ====
section
/-! SUPPORT. Fields of encoded words (30_encoding R80 to R86). -/

namespace Sys2Proof

theorem dir_ofBit_bit (d : Dir) : Dir.ofBit d.bit = d := by cases d <;> rfl

theorem dir_bit_ofBit (b : Bool) : (Dir.ofBit b).bit = b := by cases b <;> rfl

/-- The opcode field of every format is bits 31..24 (30_encoding R80). -/
theorem opField_append (op : Byte) (rest : BitVec 24) : opField (op ++ rest : BitVec 32) = op := by
  apply BitVec.eq_of_getLsbD_eq
  intro k hk
  simp only [opField, BitVec.getLsbD_extractLsb', hk, decide_true, Bool.true_and,
    BitVec.getLsbD_append]
  rw [if_neg (by omega)]
  congr 1
  omega

theorem commandOf_opcode {op : Byte} {w : Word} {i : Instr} (h : commandOf op w = some i) :
    i.opcode = op := by
  apply BitVec.eq_of_toNat_eq
  unfold commandOf at h
  split at h <;> (try cases h) <;> simp_all [Instr.opcode]

/-- A decoded command has the opcode of its word (30_encoding R88). -/
theorem decode_opcode {c : Config} {w : Word} {i : Instr} (h : decode c w = .ok i) :
    i.opcode = opField w := by
  unfold decode at h
  split at h
  · cases h
  · split at h
    · cases h
    · split at h
      · cases h
      · split at h
        · cases h
        · rename_i hc
          cases h
          exact commandOf_opcode hc

end Sys2Proof
end

