-- ==== Sys2Proof/Laws/Memory.lean ====
section
/-! SUPPORT. Buffer memory: every operation keeps the canonical form, and what a write leaves readable. -/

namespace Sys2Proof.Machine

/-- An address below every entry is unlisted. -/
theorem read_of_all_gt {m : Memory} {a : Nat} (h : ∀ c ∈ m, a < c.1) :
    Memory.read m a = unlistedByte := by
  induction m with
  | nil => rfl
  | cons c rest ih =>
    obtain ⟨b, v⟩ := c
    have hb : a < b := h (b, v) (by simp)
    simp only [Memory.read, if_neg (Nat.ne_of_gt hb)]
    exact ih fun d hd => h d (by simp [hd])

theorem wf_cons {a : Nat} {v : Byte} {rest : Memory} :
    Memory.wf ((a, v) :: rest) = true ↔
      v ≠ unlistedByte ∧ (∀ c ∈ rest, a < c.1) ∧ Memory.wf rest = true := by
  simp [Memory.wf, and_assoc]

/-- A write lists no address but its own and those already listed. -/
theorem mem_write_addr {m : Memory} {a : Nat} {v : Byte} {c : Host.Cell}
    (h : c ∈ Memory.write m a v) : c.1 = a ∨ c ∈ m := by
  induction m with
  | nil =>
    simp only [Memory.write] at h
    split at h <;> simp_all
  | cons d rest ih =>
    obtain ⟨b, w⟩ := d
    simp only [Memory.write] at h
    split at h
    · split at h
      · exact .inr h
      · rcases List.mem_cons.mp h with rfl | h
        · exact .inl rfl
        · exact .inr h
    · split at h
      · split at h
        · exact .inr (List.mem_cons_of_mem _ h)
        · rcases List.mem_cons.mp h with rfl | h
          · exact .inl rfl
          · exact .inr (List.mem_cons_of_mem _ h)
      · rcases List.mem_cons.mp h with rfl | h
        · exact .inr (List.mem_cons_self ..)
        · rcases ih h with h | h
          · exact .inl h
          · exact .inr (List.mem_cons_of_mem _ h)

/-- A write keeps the canonical form. -/
theorem write_wf {m : Memory} (h : Memory.wf m = true) (a : Nat) (v : Byte) :
    Memory.wf (Memory.write m a v) = true := by
  induction m with
  | nil =>
    simp only [Memory.write]
    split <;> simp_all [Memory.wf]
  | cons d rest ih =>
    obtain ⟨b, w⟩ := d
    obtain ⟨hw, hall, hrest⟩ := wf_cons.mp h
    simp only [Memory.write]
    split
    · rename_i hab
      split
      · exact h
      · rename_i hv
        refine wf_cons.mpr ⟨hv, fun c hc => ?_, h⟩
        rcases List.mem_cons.mp hc with rfl | hc
        · exact hab
        · exact Nat.lt_trans hab (hall c hc)
    · split
      · rename_i hab
        subst hab
        split
        · exact hrest
        · rename_i hv
          exact wf_cons.mpr ⟨hv, hall, hrest⟩
      · rename_i hlt hne
        refine wf_cons.mpr ⟨hw, fun c hc => ?_, ih hrest⟩
        rcases mem_write_addr hc with hc | hc
        · omega
        · exact hall c hc

/-- What is read after a write: the byte written at its address, every other byte as before. -/
theorem read_write {m : Memory} (h : Memory.wf m = true) (a b : Nat) (v : Byte) :
    Memory.read (Memory.write m a v) b = if b = a then v else Memory.read m b := by
  induction m with
  | nil =>
    by_cases hv : v = unlistedByte
    · simp [Memory.write, Memory.read, hv]
    · simp only [Memory.write, if_neg hv, Memory.read, eq_comm (a := a)]
  | cons d rest ih =>
    obtain ⟨c, w⟩ := d
    obtain ⟨hw, hall, hrest⟩ := wf_cons.mp h
    have ih := ih hrest
    by_cases hab : b = a
    · subst hab
      simp only [Memory.write, if_true] at ih ⊢
      split
      · rename_i hlt
        split
        · rename_i hv
          rw [hv]
          refine read_of_all_gt fun e he => ?_
          rcases List.mem_cons.mp he with rfl | he
          · exact hlt
          · exact Nat.lt_trans hlt (hall e he)
        · simp [Memory.read]
      · split
        · rename_i hbc
          subst hbc
          split
          · rename_i hv
            rw [hv]
            exact read_of_all_gt hall
          · simp [Memory.read]
        · rename_i hne
          simp only [Memory.read, if_neg (Ne.symm hne)]
          exact ih
    · simp only [if_neg hab, Memory.write] at ih ⊢
      split
      · split
        · rfl
        · simp [Memory.read, Ne.symm hab]
      · split
        · rename_i hac
          subst hac
          split <;> simp [Memory.read, Ne.symm hab]
        · simp only [Memory.read, ih]

/-- Memory is canonical after reset. -/
theorem reset_mem_wf : Memory.wf State.reset.mem = true := rfl

end Sys2Proof.Machine
end

