-- ==== Sys2Proof/Laws/State.lean ====
section
/-! SUPPORT. One lemma per field per named update of State, true by rfl, so that no proof unfolds a
record update; and how the descriptors read after a descriptor update. -/

namespace Sys2Proof.Machine

variable (s : State)

/-! ### emit -/

@[simp] theorem emit_cfg (a : Action) : (s.emit a).cfg = s.cfg := rfl
@[simp] theorem emit_bus (a : Action) : (s.emit a).bus = s.bus := rfl
@[simp] theorem emit_en (a : Action) : (s.emit a).en = s.en := rfl
@[simp] theorem emit_stopIe (a : Action) : (s.emit a).stopIe = s.stopIe := rfl
@[simp] theorem emit_inited (a : Action) : (s.emit a).inited = s.inited := rfl
@[simp] theorem emit_fatal (a : Action) : (s.emit a).fatal = s.fatal := rfl
@[simp] theorem emit_desync (a : Action) : (s.emit a).desync = s.desync := rfl
@[simp] theorem emit_mstat (a : Action) : (s.emit a).mstat = s.mstat := rfl
@[simp] theorem emit_sstat (a : Action) : (s.emit a).sstat = s.sstat := rfl
@[simp] theorem emit_saddr (a : Action) : (s.emit a).saddr = s.saddr := rfl
@[simp] theorem emit_mmode (a : Action) : (s.emit a).mmode = s.mmode := rfl
@[simp] theorem emit_data (a : Action) : (s.emit a).data = s.data := rfl
@[simp] theorem emit_clkdiv (a : Action) : (s.emit a).clkdiv = s.clkdiv := rfl
@[simp] theorem emit_mrd (a : Action) : (s.emit a).mrd = s.mrd := rfl
@[simp] theorem emit_mwr (a : Action) : (s.emit a).mwr = s.mwr := rfl
@[simp] theorem emit_srd (a : Action) : (s.emit a).srd = s.srd := rfl
@[simp] theorem emit_swr (a : Action) : (s.emit a).swr = s.swr := rfl
@[simp] theorem emit_ptr (a : Action) : (s.emit a).ptr = s.ptr := rfl
@[simp] theorem emit_cnt (a : Action) : (s.emit a).cnt = s.cnt := rfl
@[simp] theorem emit_cmdstat (a : Action) : (s.emit a).cmdstat = s.cmdstat := rfl
@[simp] theorem emit_marg (a : Action) : (s.emit a).marg = s.marg := rfl
@[simp] theorem emit_rdata (a : Action) : (s.emit a).rdata = s.rdata := rfl
@[simp] theorem emit_mem (a : Action) : (s.emit a).mem = s.mem := rfl
@[simp] theorem emit_actions (a : Action) : (s.emit a).actions = s.actions ++ [a] := rfl
@[simp] theorem emit_memHist (a : Action) : (s.emit a).memHist = s.memHist := rfl
@[simp] theorem emit_busBusy (a : Action) : (s.emit a).busBusy = s.busBusy := rfl
@[simp] theorem emit_inputs (a : Action) : (s.emit a).inputs = s.inputs := rfl
@[simp] theorem emit_hostData (a : Action) : (s.emit a).hostData = s.hostData := rfl
@[simp] theorem emit_races (a : Action) : (s.emit a).races = s.races := rfl
@[simp] theorem emit_draws (a : Action) : (s.emit a).draws = s.draws := rfl

/-! ### finish -/

@[simp] theorem finish_cfg (c : ResultCode) : (s.finish c).cfg = s.cfg := rfl
@[simp] theorem finish_bus (c : ResultCode) : (s.finish c).bus = s.bus := rfl
@[simp] theorem finish_en (c : ResultCode) : (s.finish c).en = s.en := rfl
@[simp] theorem finish_stopIe (c : ResultCode) : (s.finish c).stopIe = s.stopIe := rfl
@[simp] theorem finish_inited (c : ResultCode) : (s.finish c).inited = s.inited := rfl
@[simp] theorem finish_fatal (c : ResultCode) : (s.finish c).fatal = s.fatal := rfl
@[simp] theorem finish_desync (c : ResultCode) : (s.finish c).desync = s.desync := rfl
@[simp] theorem finish_mstat (c : ResultCode) : (s.finish c).mstat = s.mstat := rfl
@[simp] theorem finish_sstat (c : ResultCode) : (s.finish c).sstat = s.sstat := rfl
@[simp] theorem finish_saddr (c : ResultCode) : (s.finish c).saddr = s.saddr := rfl
@[simp] theorem finish_mmode (c : ResultCode) : (s.finish c).mmode = s.mmode := rfl
@[simp] theorem finish_data (c : ResultCode) : (s.finish c).data = s.data := rfl
@[simp] theorem finish_clkdiv (c : ResultCode) : (s.finish c).clkdiv = s.clkdiv := rfl
@[simp] theorem finish_mrd (c : ResultCode) : (s.finish c).mrd = s.mrd := rfl
@[simp] theorem finish_mwr (c : ResultCode) : (s.finish c).mwr = s.mwr := rfl
@[simp] theorem finish_srd (c : ResultCode) : (s.finish c).srd = s.srd := rfl
@[simp] theorem finish_swr (c : ResultCode) : (s.finish c).swr = s.swr := rfl
@[simp] theorem finish_ptr (c : ResultCode) : (s.finish c).ptr = s.ptr := rfl
@[simp] theorem finish_cnt (c : ResultCode) : (s.finish c).cnt = s.cnt := rfl
@[simp] theorem finish_cmdstat (c : ResultCode) : (s.finish c).cmdstat = { s.cmdstat with code := c } := rfl
@[simp] theorem finish_marg (c : ResultCode) : (s.finish c).marg = s.marg := rfl
@[simp] theorem finish_rdata (c : ResultCode) : (s.finish c).rdata = s.rdata := rfl
@[simp] theorem finish_mem (c : ResultCode) : (s.finish c).mem = s.mem := rfl
@[simp] theorem finish_actions (c : ResultCode) : (s.finish c).actions = s.actions := rfl
@[simp] theorem finish_memHist (c : ResultCode) : (s.finish c).memHist = s.memHist := rfl
@[simp] theorem finish_busBusy (c : ResultCode) : (s.finish c).busBusy = s.busBusy := rfl
@[simp] theorem finish_inputs (c : ResultCode) : (s.finish c).inputs = s.inputs := rfl
@[simp] theorem finish_hostData (c : ResultCode) : (s.finish c).hostData = s.hostData := rfl
@[simp] theorem finish_races (c : ResultCode) : (s.finish c).races = s.races := rfl
@[simp] theorem finish_draws (c : ResultCode) : (s.finish c).draws = s.draws := rfl

/-! ### goPending -/

@[simp] theorem goPending_cfg (m w : Bool) : (s.goPending m w).cfg = s.cfg := rfl
@[simp] theorem goPending_bus (m w : Bool) : (s.goPending m w).bus = s.bus := rfl
@[simp] theorem goPending_en (m w : Bool) : (s.goPending m w).en = s.en := rfl
@[simp] theorem goPending_stopIe (m w : Bool) : (s.goPending m w).stopIe = s.stopIe := rfl
@[simp] theorem goPending_inited (m w : Bool) : (s.goPending m w).inited = s.inited := rfl
@[simp] theorem goPending_fatal (m w : Bool) : (s.goPending m w).fatal = s.fatal := rfl
@[simp] theorem goPending_desync (m w : Bool) : (s.goPending m w).desync = s.desync := rfl
@[simp] theorem goPending_mstat (m w : Bool) : (s.goPending m w).mstat = s.mstat := rfl
@[simp] theorem goPending_sstat (m w : Bool) : (s.goPending m w).sstat = s.sstat := rfl
@[simp] theorem goPending_saddr (m w : Bool) : (s.goPending m w).saddr = s.saddr := rfl
@[simp] theorem goPending_mmode (m w : Bool) : (s.goPending m w).mmode = s.mmode := rfl
@[simp] theorem goPending_data (m w : Bool) : (s.goPending m w).data = s.data := rfl
@[simp] theorem goPending_clkdiv (m w : Bool) : (s.goPending m w).clkdiv = s.clkdiv := rfl
@[simp] theorem goPending_mrd (m w : Bool) : (s.goPending m w).mrd = s.mrd := rfl
@[simp] theorem goPending_mwr (m w : Bool) : (s.goPending m w).mwr = s.mwr := rfl
@[simp] theorem goPending_srd (m w : Bool) : (s.goPending m w).srd = s.srd := rfl
@[simp] theorem goPending_swr (m w : Bool) : (s.goPending m w).swr = s.swr := rfl
@[simp] theorem goPending_ptr (m w : Bool) : (s.goPending m w).ptr = s.ptr := rfl
@[simp] theorem goPending_cnt (m w : Bool) : (s.goPending m w).cnt = s.cnt := rfl
@[simp] theorem goPending_cmdstat (m w : Bool) : (s.goPending m w).cmdstat = { s.cmdstat with wstop := w, busy := true } := rfl
@[simp] theorem goPending_marg (m w : Bool) : (s.goPending m w).marg = m := rfl
@[simp] theorem goPending_margBit (m w : Bool) : (s.goPending m w).margBit = m := rfl
@[simp] theorem goPending_rdata (m w : Bool) : (s.goPending m w).rdata = s.rdata := rfl
@[simp] theorem goPending_mem (m w : Bool) : (s.goPending m w).mem = s.mem := rfl
@[simp] theorem goPending_actions (m w : Bool) : (s.goPending m w).actions = s.actions := rfl
@[simp] theorem goPending_memHist (m w : Bool) : (s.goPending m w).memHist = s.memHist := rfl
@[simp] theorem goPending_busBusy (m w : Bool) : (s.goPending m w).busBusy = s.busBusy := rfl
@[simp] theorem goPending_inputs (m w : Bool) : (s.goPending m w).inputs = s.inputs := rfl
@[simp] theorem goPending_hostData (m w : Bool) : (s.goPending m w).hostData = s.hostData := rfl
@[simp] theorem goPending_races (m w : Bool) : (s.goPending m w).races = s.races := rfl
@[simp] theorem goPending_draws (m w : Bool) : (s.goPending m w).draws = s.draws := rfl

/-! ### complete -/

@[simp] theorem complete_cfg (c : ResultCode) : (s.complete c).cfg = s.cfg := rfl
@[simp] theorem complete_bus (c : ResultCode) : (s.complete c).bus = s.bus := rfl
@[simp] theorem complete_en (c : ResultCode) : (s.complete c).en = s.en := rfl
@[simp] theorem complete_stopIe (c : ResultCode) : (s.complete c).stopIe = s.stopIe := rfl
@[simp] theorem complete_inited (c : ResultCode) : (s.complete c).inited = s.inited := rfl
@[simp] theorem complete_fatal (c : ResultCode) : (s.complete c).fatal = s.fatal := rfl
@[simp] theorem complete_desync (c : ResultCode) : (s.complete c).desync = s.desync := rfl
@[simp] theorem complete_mstat (c : ResultCode) : (s.complete c).mstat = s.mstat := rfl
@[simp] theorem complete_sstat (c : ResultCode) : (s.complete c).sstat = s.sstat := rfl
@[simp] theorem complete_saddr (c : ResultCode) : (s.complete c).saddr = s.saddr := rfl
@[simp] theorem complete_mmode (c : ResultCode) : (s.complete c).mmode = s.mmode := rfl
@[simp] theorem complete_data (c : ResultCode) : (s.complete c).data = s.data := rfl
@[simp] theorem complete_clkdiv (c : ResultCode) : (s.complete c).clkdiv = s.clkdiv := rfl
@[simp] theorem complete_mrd (c : ResultCode) : (s.complete c).mrd = s.mrd := rfl
@[simp] theorem complete_mwr (c : ResultCode) : (s.complete c).mwr = s.mwr := rfl
@[simp] theorem complete_srd (c : ResultCode) : (s.complete c).srd = s.srd := rfl
@[simp] theorem complete_swr (c : ResultCode) : (s.complete c).swr = s.swr := rfl
@[simp] theorem complete_ptr (c : ResultCode) : (s.complete c).ptr = s.ptr := rfl
@[simp] theorem complete_cnt (c : ResultCode) : (s.complete c).cnt = s.cnt := rfl
@[simp] theorem complete_cmdstat (c : ResultCode) : (s.complete c).cmdstat = { s.cmdstat with busy := false, wstop := false, code := c } := rfl
@[simp] theorem complete_marg (c : ResultCode) : (s.complete c).marg = s.marg := rfl
@[simp] theorem complete_margBit (c : ResultCode) : (s.complete c).margBit = false := rfl
@[simp] theorem complete_rdata (c : ResultCode) : (s.complete c).rdata = s.rdata := rfl
@[simp] theorem complete_mem (c : ResultCode) : (s.complete c).mem = s.mem := rfl
@[simp] theorem complete_actions (c : ResultCode) : (s.complete c).actions = s.actions := rfl
@[simp] theorem complete_memHist (c : ResultCode) : (s.complete c).memHist = s.memHist := rfl
@[simp] theorem complete_busBusy (c : ResultCode) : (s.complete c).busBusy = s.busBusy := rfl
@[simp] theorem complete_inputs (c : ResultCode) : (s.complete c).inputs = s.inputs := rfl
@[simp] theorem complete_hostData (c : ResultCode) : (s.complete c).hostData = s.hostData := rfl
@[simp] theorem complete_races (c : ResultCode) : (s.complete c).races = s.races := rfl
@[simp] theorem complete_draws (c : ResultCode) : (s.complete c).draws = s.draws := rfl

/-! ### recordOp -/

@[simp] theorem recordOp_cfg (w : Word) : (s.recordOp w).cfg = s.cfg := rfl
@[simp] theorem recordOp_bus (w : Word) : (s.recordOp w).bus = s.bus := rfl
@[simp] theorem recordOp_en (w : Word) : (s.recordOp w).en = s.en := rfl
@[simp] theorem recordOp_stopIe (w : Word) : (s.recordOp w).stopIe = s.stopIe := rfl
@[simp] theorem recordOp_inited (w : Word) : (s.recordOp w).inited = s.inited := rfl
@[simp] theorem recordOp_fatal (w : Word) : (s.recordOp w).fatal = s.fatal := rfl
@[simp] theorem recordOp_desync (w : Word) : (s.recordOp w).desync = s.desync := rfl
@[simp] theorem recordOp_mstat (w : Word) : (s.recordOp w).mstat = s.mstat := rfl
@[simp] theorem recordOp_sstat (w : Word) : (s.recordOp w).sstat = s.sstat := rfl
@[simp] theorem recordOp_saddr (w : Word) : (s.recordOp w).saddr = s.saddr := rfl
@[simp] theorem recordOp_mmode (w : Word) : (s.recordOp w).mmode = s.mmode := rfl
@[simp] theorem recordOp_data (w : Word) : (s.recordOp w).data = s.data := rfl
@[simp] theorem recordOp_clkdiv (w : Word) : (s.recordOp w).clkdiv = s.clkdiv := rfl
@[simp] theorem recordOp_mrd (w : Word) : (s.recordOp w).mrd = s.mrd := rfl
@[simp] theorem recordOp_mwr (w : Word) : (s.recordOp w).mwr = s.mwr := rfl
@[simp] theorem recordOp_srd (w : Word) : (s.recordOp w).srd = s.srd := rfl
@[simp] theorem recordOp_swr (w : Word) : (s.recordOp w).swr = s.swr := rfl
@[simp] theorem recordOp_ptr (w : Word) : (s.recordOp w).ptr = s.ptr := rfl
@[simp] theorem recordOp_cnt (w : Word) : (s.recordOp w).cnt = s.cnt := rfl
@[simp] theorem recordOp_cmdstat (w : Word) : (s.recordOp w).cmdstat = { s.cmdstat with lastop := opField w } := rfl
@[simp] theorem recordOp_marg (w : Word) : (s.recordOp w).marg = s.marg := rfl
@[simp] theorem recordOp_rdata (w : Word) : (s.recordOp w).rdata = s.rdata := rfl
@[simp] theorem recordOp_mem (w : Word) : (s.recordOp w).mem = s.mem := rfl
@[simp] theorem recordOp_actions (w : Word) : (s.recordOp w).actions = s.actions := rfl
@[simp] theorem recordOp_memHist (w : Word) : (s.recordOp w).memHist = s.memHist := rfl
@[simp] theorem recordOp_busBusy (w : Word) : (s.recordOp w).busBusy = s.busBusy := rfl
@[simp] theorem recordOp_inputs (w : Word) : (s.recordOp w).inputs = s.inputs := rfl
@[simp] theorem recordOp_hostData (w : Word) : (s.recordOp w).hostData = s.hostData := rfl
@[simp] theorem recordOp_races (w : Word) : (s.recordOp w).races = s.races := rfl
@[simp] theorem recordOp_draws (w : Word) : (s.recordOp w).draws = s.draws := rfl

/-! ### takeInput -/

@[simp] theorem takeInput_cfg (x : Input) (l : List Input) : (s.takeInput x l).cfg = s.cfg := rfl
@[simp] theorem takeInput_bus (x : Input) (l : List Input) : (s.takeInput x l).bus = s.bus := rfl
@[simp] theorem takeInput_en (x : Input) (l : List Input) : (s.takeInput x l).en = s.en := rfl
@[simp] theorem takeInput_stopIe (x : Input) (l : List Input) : (s.takeInput x l).stopIe = s.stopIe := rfl
@[simp] theorem takeInput_inited (x : Input) (l : List Input) : (s.takeInput x l).inited = s.inited := rfl
@[simp] theorem takeInput_fatal (x : Input) (l : List Input) : (s.takeInput x l).fatal = s.fatal := rfl
@[simp] theorem takeInput_desync (x : Input) (l : List Input) : (s.takeInput x l).desync = s.desync := rfl
@[simp] theorem takeInput_mstat (x : Input) (l : List Input) : (s.takeInput x l).mstat = s.mstat := rfl
@[simp] theorem takeInput_sstat (x : Input) (l : List Input) : (s.takeInput x l).sstat = s.sstat := rfl
@[simp] theorem takeInput_saddr (x : Input) (l : List Input) : (s.takeInput x l).saddr = s.saddr := rfl
@[simp] theorem takeInput_mmode (x : Input) (l : List Input) : (s.takeInput x l).mmode = s.mmode := rfl
@[simp] theorem takeInput_data (x : Input) (l : List Input) : (s.takeInput x l).data = s.data := rfl
@[simp] theorem takeInput_clkdiv (x : Input) (l : List Input) : (s.takeInput x l).clkdiv = s.clkdiv := rfl
@[simp] theorem takeInput_mrd (x : Input) (l : List Input) : (s.takeInput x l).mrd = s.mrd := rfl
@[simp] theorem takeInput_mwr (x : Input) (l : List Input) : (s.takeInput x l).mwr = s.mwr := rfl
@[simp] theorem takeInput_srd (x : Input) (l : List Input) : (s.takeInput x l).srd = s.srd := rfl
@[simp] theorem takeInput_swr (x : Input) (l : List Input) : (s.takeInput x l).swr = s.swr := rfl
@[simp] theorem takeInput_ptr (x : Input) (l : List Input) : (s.takeInput x l).ptr = s.ptr := rfl
@[simp] theorem takeInput_cnt (x : Input) (l : List Input) : (s.takeInput x l).cnt = s.cnt := rfl
@[simp] theorem takeInput_cmdstat (x : Input) (l : List Input) : (s.takeInput x l).cmdstat = s.cmdstat := rfl
@[simp] theorem takeInput_marg (x : Input) (l : List Input) : (s.takeInput x l).marg = s.marg := rfl
@[simp] theorem takeInput_rdata (x : Input) (l : List Input) : (s.takeInput x l).rdata = s.rdata := rfl
@[simp] theorem takeInput_mem (x : Input) (l : List Input) : (s.takeInput x l).mem = s.mem := rfl
@[simp] theorem takeInput_actions (x : Input) (l : List Input) : (s.takeInput x l).actions = s.actions := rfl
@[simp] theorem takeInput_memHist (x : Input) (l : List Input) : (s.takeInput x l).memHist = s.memHist := rfl
@[simp] theorem takeInput_busBusy (x : Input) (l : List Input) : (s.takeInput x l).busBusy = x.busBusy := rfl
@[simp] theorem takeInput_inputs (x : Input) (l : List Input) : (s.takeInput x l).inputs = l := rfl
@[simp] theorem takeInput_hostData (x : Input) (l : List Input) : (s.takeInput x l).hostData = s.hostData := rfl
@[simp] theorem takeInput_races (x : Input) (l : List Input) : (s.takeInput x l).races = s.races := rfl
@[simp] theorem takeInput_draws (x : Input) (l : List Input) : (s.takeInput x l).draws = s.draws := rfl

/-! ### dropSettledRaces -/

@[simp] theorem dropSettledRaces_cfg : s.dropSettledRaces.cfg = s.cfg := rfl
@[simp] theorem dropSettledRaces_bus : s.dropSettledRaces.bus = s.bus := rfl
@[simp] theorem dropSettledRaces_en : s.dropSettledRaces.en = s.en := rfl
@[simp] theorem dropSettledRaces_stopIe : s.dropSettledRaces.stopIe = s.stopIe := rfl
@[simp] theorem dropSettledRaces_inited : s.dropSettledRaces.inited = s.inited := rfl
@[simp] theorem dropSettledRaces_fatal : s.dropSettledRaces.fatal = s.fatal := rfl
@[simp] theorem dropSettledRaces_desync : s.dropSettledRaces.desync = s.desync := rfl
@[simp] theorem dropSettledRaces_mstat : s.dropSettledRaces.mstat = s.mstat := rfl
@[simp] theorem dropSettledRaces_sstat : s.dropSettledRaces.sstat = s.sstat := rfl
@[simp] theorem dropSettledRaces_saddr : s.dropSettledRaces.saddr = s.saddr := rfl
@[simp] theorem dropSettledRaces_mmode : s.dropSettledRaces.mmode = s.mmode := rfl
@[simp] theorem dropSettledRaces_data : s.dropSettledRaces.data = s.data := rfl
@[simp] theorem dropSettledRaces_clkdiv : s.dropSettledRaces.clkdiv = s.clkdiv := rfl
@[simp] theorem dropSettledRaces_mrd : s.dropSettledRaces.mrd = s.mrd := rfl
@[simp] theorem dropSettledRaces_mwr : s.dropSettledRaces.mwr = s.mwr := rfl
@[simp] theorem dropSettledRaces_srd : s.dropSettledRaces.srd = s.srd := rfl
@[simp] theorem dropSettledRaces_swr : s.dropSettledRaces.swr = s.swr := rfl
@[simp] theorem dropSettledRaces_ptr : s.dropSettledRaces.ptr = s.ptr := rfl
@[simp] theorem dropSettledRaces_cnt : s.dropSettledRaces.cnt = s.cnt := rfl
@[simp] theorem dropSettledRaces_cmdstat : s.dropSettledRaces.cmdstat = s.cmdstat := rfl
@[simp] theorem dropSettledRaces_marg : s.dropSettledRaces.marg = s.marg := rfl
@[simp] theorem dropSettledRaces_rdata : s.dropSettledRaces.rdata = s.rdata := rfl
@[simp] theorem dropSettledRaces_mem : s.dropSettledRaces.mem = s.mem := rfl
@[simp] theorem dropSettledRaces_actions : s.dropSettledRaces.actions = s.actions := rfl
@[simp] theorem dropSettledRaces_memHist : s.dropSettledRaces.memHist = s.memHist := rfl
@[simp] theorem dropSettledRaces_busBusy : s.dropSettledRaces.busBusy = s.busBusy := rfl
@[simp] theorem dropSettledRaces_inputs : s.dropSettledRaces.inputs = s.inputs := rfl
@[simp] theorem dropSettledRaces_hostData : s.dropSettledRaces.hostData = s.hostData := rfl
@[simp] theorem dropSettledRaces_races : s.dropSettledRaces.races = s.races.filter fun c => s.owns c.1 := rfl
@[simp] theorem dropSettledRaces_draws : s.dropSettledRaces.draws = s.draws := rfl

/-! ### setBuf, setIdx -/

@[simp] theorem setBuf_cfg (b : BufId) (d : Desc) : (s.setBuf b d).cfg = s.cfg := by cases b <;> rfl
@[simp] theorem setBuf_bus (b : BufId) (d : Desc) : (s.setBuf b d).bus = s.bus := by cases b <;> rfl
@[simp] theorem setBuf_en (b : BufId) (d : Desc) : (s.setBuf b d).en = s.en := by cases b <;> rfl
@[simp] theorem setBuf_stopIe (b : BufId) (d : Desc) : (s.setBuf b d).stopIe = s.stopIe := by cases b <;> rfl
@[simp] theorem setBuf_inited (b : BufId) (d : Desc) : (s.setBuf b d).inited = s.inited := by cases b <;> rfl
@[simp] theorem setBuf_fatal (b : BufId) (d : Desc) : (s.setBuf b d).fatal = s.fatal := by cases b <;> rfl
@[simp] theorem setBuf_desync (b : BufId) (d : Desc) : (s.setBuf b d).desync = s.desync := by cases b <;> rfl
@[simp] theorem setBuf_mstat (b : BufId) (d : Desc) : (s.setBuf b d).mstat = s.mstat := by cases b <;> rfl
@[simp] theorem setBuf_sstat (b : BufId) (d : Desc) : (s.setBuf b d).sstat = s.sstat := by cases b <;> rfl
@[simp] theorem setBuf_saddr (b : BufId) (d : Desc) : (s.setBuf b d).saddr = s.saddr := by cases b <;> rfl
@[simp] theorem setBuf_mmode (b : BufId) (d : Desc) : (s.setBuf b d).mmode = s.mmode := by cases b <;> rfl
@[simp] theorem setBuf_data (b : BufId) (d : Desc) : (s.setBuf b d).data = s.data := by cases b <;> rfl
@[simp] theorem setBuf_clkdiv (b : BufId) (d : Desc) : (s.setBuf b d).clkdiv = s.clkdiv := by cases b <;> rfl
@[simp] theorem setBuf_ptr (b : BufId) (d : Desc) : (s.setBuf b d).ptr = s.ptr := by cases b <;> rfl
@[simp] theorem setBuf_cnt (b : BufId) (d : Desc) : (s.setBuf b d).cnt = s.cnt := by cases b <;> rfl
@[simp] theorem setBuf_cmdstat (b : BufId) (d : Desc) : (s.setBuf b d).cmdstat = s.cmdstat := by cases b <;> rfl
@[simp] theorem setBuf_marg (b : BufId) (d : Desc) : (s.setBuf b d).marg = s.marg := by cases b <;> rfl
@[simp] theorem setBuf_rdata (b : BufId) (d : Desc) : (s.setBuf b d).rdata = s.rdata := by cases b <;> rfl
@[simp] theorem setBuf_mem (b : BufId) (d : Desc) : (s.setBuf b d).mem = s.mem := by cases b <;> rfl
@[simp] theorem setBuf_actions (b : BufId) (d : Desc) : (s.setBuf b d).actions = s.actions := by cases b <;> rfl
@[simp] theorem setBuf_memHist (b : BufId) (d : Desc) : (s.setBuf b d).memHist = s.memHist := by cases b <;> rfl
@[simp] theorem setBuf_busBusy (b : BufId) (d : Desc) : (s.setBuf b d).busBusy = s.busBusy := by cases b <;> rfl
@[simp] theorem setBuf_inputs (b : BufId) (d : Desc) : (s.setBuf b d).inputs = s.inputs := by cases b <;> rfl
@[simp] theorem setBuf_hostData (b : BufId) (d : Desc) : (s.setBuf b d).hostData = s.hostData := by cases b <;> rfl
@[simp] theorem setBuf_races (b : BufId) (d : Desc) : (s.setBuf b d).races = s.races := by cases b <;> rfl
@[simp] theorem setBuf_draws (b : BufId) (d : Desc) : (s.setBuf b d).draws = s.draws := by cases b <;> rfl

@[simp] theorem setIdx_cfg (b : BufId) (i : Count) : (s.setIdx b i).cfg = s.cfg := setBuf_cfg s b _
@[simp] theorem setIdx_bus (b : BufId) (i : Count) : (s.setIdx b i).bus = s.bus := setBuf_bus s b _
@[simp] theorem setIdx_en (b : BufId) (i : Count) : (s.setIdx b i).en = s.en := setBuf_en s b _
@[simp] theorem setIdx_stopIe (b : BufId) (i : Count) : (s.setIdx b i).stopIe = s.stopIe := setBuf_stopIe s b _
@[simp] theorem setIdx_inited (b : BufId) (i : Count) : (s.setIdx b i).inited = s.inited := setBuf_inited s b _
@[simp] theorem setIdx_fatal (b : BufId) (i : Count) : (s.setIdx b i).fatal = s.fatal := setBuf_fatal s b _
@[simp] theorem setIdx_desync (b : BufId) (i : Count) : (s.setIdx b i).desync = s.desync := setBuf_desync s b _
@[simp] theorem setIdx_mstat (b : BufId) (i : Count) : (s.setIdx b i).mstat = s.mstat := setBuf_mstat s b _
@[simp] theorem setIdx_sstat (b : BufId) (i : Count) : (s.setIdx b i).sstat = s.sstat := setBuf_sstat s b _
@[simp] theorem setIdx_saddr (b : BufId) (i : Count) : (s.setIdx b i).saddr = s.saddr := setBuf_saddr s b _
@[simp] theorem setIdx_mmode (b : BufId) (i : Count) : (s.setIdx b i).mmode = s.mmode := setBuf_mmode s b _
@[simp] theorem setIdx_data (b : BufId) (i : Count) : (s.setIdx b i).data = s.data := setBuf_data s b _
@[simp] theorem setIdx_clkdiv (b : BufId) (i : Count) : (s.setIdx b i).clkdiv = s.clkdiv := setBuf_clkdiv s b _
@[simp] theorem setIdx_ptr (b : BufId) (i : Count) : (s.setIdx b i).ptr = s.ptr := setBuf_ptr s b _
@[simp] theorem setIdx_cnt (b : BufId) (i : Count) : (s.setIdx b i).cnt = s.cnt := setBuf_cnt s b _
@[simp] theorem setIdx_cmdstat (b : BufId) (i : Count) : (s.setIdx b i).cmdstat = s.cmdstat := setBuf_cmdstat s b _
@[simp] theorem setIdx_marg (b : BufId) (i : Count) : (s.setIdx b i).marg = s.marg := setBuf_marg s b _
@[simp] theorem setIdx_rdata (b : BufId) (i : Count) : (s.setIdx b i).rdata = s.rdata := setBuf_rdata s b _
@[simp] theorem setIdx_mem (b : BufId) (i : Count) : (s.setIdx b i).mem = s.mem := setBuf_mem s b _
@[simp] theorem setIdx_actions (b : BufId) (i : Count) : (s.setIdx b i).actions = s.actions := setBuf_actions s b _
@[simp] theorem setIdx_memHist (b : BufId) (i : Count) : (s.setIdx b i).memHist = s.memHist := setBuf_memHist s b _
@[simp] theorem setIdx_busBusy (b : BufId) (i : Count) : (s.setIdx b i).busBusy = s.busBusy := setBuf_busBusy s b _
@[simp] theorem setIdx_inputs (b : BufId) (i : Count) : (s.setIdx b i).inputs = s.inputs := setBuf_inputs s b _
@[simp] theorem setIdx_hostData (b : BufId) (i : Count) : (s.setIdx b i).hostData = s.hostData := setBuf_hostData s b _
@[simp] theorem setIdx_races (b : BufId) (i : Count) : (s.setIdx b i).races = s.races := setBuf_races s b _
@[simp] theorem setIdx_draws (b : BufId) (i : Count) : (s.setIdx b i).draws = s.draws := setBuf_draws s b _

@[simp] theorem bumpIdx_cfg (b : BufId) : (s.bumpIdx b).cfg = s.cfg := setIdx_cfg s b _
@[simp] theorem bumpIdx_bus (b : BufId) : (s.bumpIdx b).bus = s.bus := setIdx_bus s b _
@[simp] theorem bumpIdx_en (b : BufId) : (s.bumpIdx b).en = s.en := setIdx_en s b _
@[simp] theorem bumpIdx_stopIe (b : BufId) : (s.bumpIdx b).stopIe = s.stopIe := setIdx_stopIe s b _
@[simp] theorem bumpIdx_inited (b : BufId) : (s.bumpIdx b).inited = s.inited := setIdx_inited s b _
@[simp] theorem bumpIdx_fatal (b : BufId) : (s.bumpIdx b).fatal = s.fatal := setIdx_fatal s b _
@[simp] theorem bumpIdx_desync (b : BufId) : (s.bumpIdx b).desync = s.desync := setIdx_desync s b _
@[simp] theorem bumpIdx_mstat (b : BufId) : (s.bumpIdx b).mstat = s.mstat := setIdx_mstat s b _
@[simp] theorem bumpIdx_sstat (b : BufId) : (s.bumpIdx b).sstat = s.sstat := setIdx_sstat s b _
@[simp] theorem bumpIdx_saddr (b : BufId) : (s.bumpIdx b).saddr = s.saddr := setIdx_saddr s b _
@[simp] theorem bumpIdx_mmode (b : BufId) : (s.bumpIdx b).mmode = s.mmode := setIdx_mmode s b _
@[simp] theorem bumpIdx_data (b : BufId) : (s.bumpIdx b).data = s.data := setIdx_data s b _
@[simp] theorem bumpIdx_clkdiv (b : BufId) : (s.bumpIdx b).clkdiv = s.clkdiv := setIdx_clkdiv s b _
@[simp] theorem bumpIdx_ptr (b : BufId) : (s.bumpIdx b).ptr = s.ptr := setIdx_ptr s b _
@[simp] theorem bumpIdx_cnt (b : BufId) : (s.bumpIdx b).cnt = s.cnt := setIdx_cnt s b _
@[simp] theorem bumpIdx_cmdstat (b : BufId) : (s.bumpIdx b).cmdstat = s.cmdstat := setIdx_cmdstat s b _
@[simp] theorem bumpIdx_marg (b : BufId) : (s.bumpIdx b).marg = s.marg := setIdx_marg s b _
@[simp] theorem bumpIdx_rdata (b : BufId) : (s.bumpIdx b).rdata = s.rdata := setIdx_rdata s b _
@[simp] theorem bumpIdx_mem (b : BufId) : (s.bumpIdx b).mem = s.mem := setIdx_mem s b _
@[simp] theorem bumpIdx_actions (b : BufId) : (s.bumpIdx b).actions = s.actions := setIdx_actions s b _
@[simp] theorem bumpIdx_memHist (b : BufId) : (s.bumpIdx b).memHist = s.memHist := setIdx_memHist s b _
@[simp] theorem bumpIdx_busBusy (b : BufId) : (s.bumpIdx b).busBusy = s.busBusy := setIdx_busBusy s b _
@[simp] theorem bumpIdx_inputs (b : BufId) : (s.bumpIdx b).inputs = s.inputs := setIdx_inputs s b _
@[simp] theorem bumpIdx_hostData (b : BufId) : (s.bumpIdx b).hostData = s.hostData := setIdx_hostData s b _
@[simp] theorem bumpIdx_races (b : BufId) : (s.bumpIdx b).races = s.races := setIdx_races s b _
@[simp] theorem bumpIdx_draws (b : BufId) : (s.bumpIdx b).draws = s.draws := setIdx_draws s b _

@[simp] theorem buf_mrd : s.buf .mrd = s.mrd := rfl
@[simp] theorem buf_mwr : s.buf .mwr = s.mwr := rfl
@[simp] theorem buf_srd : s.buf .srd = s.srd := rfl
@[simp] theorem buf_swr : s.buf .swr = s.swr := rfl

theorem buf_setBuf (b x : BufId) (d : Desc) :
    (s.setBuf b d).buf x = if x = b then d else s.buf x := by
  cases b <;> cases x <;> rfl

theorem buf_setIdx (b x : BufId) (i : Count) :
    (s.setIdx b i).buf x = if x = b then { s.buf b with idx := i } else s.buf x := by
  cases b <;> cases x <;> rfl

theorem buf_bumpIdx (b x : BufId) :
    (s.bumpIdx b).buf x =
      if x = b then { s.buf b with idx := incIdx s.cfg (s.buf b).idx } else s.buf x :=
  buf_setIdx s b x _

@[simp] theorem buf_emit (a : Action) (k : BufId) : (s.emit a).buf k = s.buf k := by cases k <;> rfl
@[simp] theorem buf_finish (c : ResultCode) (k : BufId) : (s.finish c).buf k = s.buf k := by cases k <;> rfl
@[simp] theorem buf_goPending (m w : Bool) (k : BufId) : (s.goPending m w).buf k = s.buf k := by cases k <;> rfl
@[simp] theorem buf_complete (c : ResultCode) (k : BufId) : (s.complete c).buf k = s.buf k := by cases k <;> rfl
@[simp] theorem buf_recordOp (w : Word) (k : BufId) : (s.recordOp w).buf k = s.buf k := by cases k <;> rfl
@[simp] theorem buf_takeInput (x : Input) (l : List Input) (k : BufId) : (s.takeInput x l).buf k = s.buf k := by cases k <;> rfl
@[simp] theorem buf_dropSettledRaces (k : BufId) : s.dropSettledRaces.buf k = s.buf k := by cases k <;> rfl

end Sys2Proof.Machine
end

