-- ==== Sys2Proof/Laws/Ops.lean ====
section
/-! SUPPORT. What each shared operation can do, said once: the memory port, races, the index, the close of
an event step, the issue of a command, the CSR decode and the step. -/

namespace Sys2Proof.Machine

/-! ### Operands -/

theorem truncPtr_toNat_lt (c : Config) (v : Word) : (truncPtr c v).toNat < 2 ^ c.aw := by
  have h : v.toNat % 2 ^ c.aw < 2 ^ c.aw := Nat.mod_lt _ (Nat.two_pow_pos _)
  simp only [truncPtr, BitVec.toNat_ofNat]
  exact Nat.lt_of_le_of_lt (Nat.mod_le _ _) h

theorem truncCnt_toNat_lt (c : Config) (v : Word) : (truncCnt c v).toNat < 2 ^ c.cntW := by
  have h : v.toNat % 2 ^ c.cntW < 2 ^ c.cntW := Nat.mod_lt _ (Nat.two_pow_pos _)
  simp only [truncCnt, BitVec.toNat_ofNat]
  exact Nat.lt_of_le_of_lt (Nat.mod_le _ _) h

/-- The incremented index never exceeds the index plus one (20_memory R74). -/
theorem incIdx_toNat_le (c : Config) (i : Count) : (incIdx c i).toNat ≤ i.toNat + 1 := by
  simp only [incIdx, BitVec.toNat_ofNat]
  exact Nat.le_trans (Nat.mod_le _ _) (Nat.mod_le _ _)

/-- Below a capacity of CNT_W bits the increment does not wrap (20_memory R74). -/
theorem incIdx_eq {c : Config} {i n : Count} (h : i.toNat < n.toNat) (hn : n.toNat < 2 ^ c.cntW) :
    incIdx c i = i + 1 := by
  apply BitVec.eq_of_toNat_eq
  have hn16 := n.isLt
  simp only [incIdx, BitVec.toNat_ofNat, BitVec.toNat_add]
  rw [Nat.mod_eq_of_lt (show i.toNat + 1 < 2 ^ c.cntW by omega)]
  rfl

theorem bufferFits_iff (c : Config) (p : Word) (n : Count) :
    bufferFits c p n = true ↔ p.toNat + n.toNat ≤ 2 ^ c.aw := by
  simp [bufferFits]

theorem more_iff (d : Desc) : d.more = true ↔ d.idx.toNat < d.cap.toNat := by
  simp [Desc.more]

/-! ### The memory port and races -/

theorem pick_nil (s : State) (b : Byte) : s.pick b [] = b := rfl

theorem drawsAfter_nil (s : State) : s.drawsAfter [] = s.draws := rfl

/-- A pick is one of the racing bytes (20_memory R70). -/
theorem pick_mem (s : State) (b : Byte) (alts : List Byte) : s.pick b alts ∈ b :: alts := by
  cases alts with
  | nil => simp [State.pick]
  | cons x rest =>
    have h : Config.racePick s.draws % (rest.length + 2) < (b :: x :: rest).length :=
      Nat.mod_lt _ (by omega)
    simp only [State.pick, List.getD_eq_getElem _ _ h]
    exact List.getElem_mem h

theorem raceAlts_of_no_races {s : State} (h : s.races = []) (a : Nat) : s.raceAlts a = [] := by
  simp [State.raceAlts, h]

theorem storeAlts_of_no_race {s : State} {a : Nat} (h : s.raceAlts a = []) : s.storeAlts a = [] := by
  simp [State.storeAlts, h]

theorem portStop_none_iff (s : State) (r : PortReply) (a : Nat) :
    s.portStop r a = none ↔ r = .grant ∧ a < 2 ^ s.cfg.aw := by
  cases r <;> simp [State.portStop]

/-- The port never desyncs: it stops or refuses. -/
theorem portStop_ne_desync (s : State) (r : PortReply) (a : Nat) :
    s.portStop r a ≠ some .desync := by
  cases r <;> simp only [State.portStop] <;> (try split) <;> simp

/-- Everything `MemRead` can do. -/
theorem memRead_cases (s : State) (r : PortReply) (a : Nat) :
    (r = .grant ∧ a < 2 ^ s.cfg.aw ∧ s.memRead r a = .ok (s.portByte a, { s with
      memHist := s.memHist ++ [.read a], draws := s.drawsAfter (s.raceAlts a) })) ∨
    ∃ e, s.portStop r a = some e ∧ e ≠ .desync ∧ s.memRead r a = .error e := by
  unfold State.memRead
  cases h : s.portStop r a with
  | none => exact .inl ⟨((portStop_none_iff s r a).mp h).1, ((portStop_none_iff s r a).mp h).2, rfl⟩
  | some e => exact .inr ⟨e, rfl, fun he => portStop_ne_desync s r a (he ▸ h), rfl⟩

/-- Everything `MemWrite` can do. -/
theorem memWrite_cases (s : State) (r : PortReply) (a : Nat) (v : Byte) :
    (r = .grant ∧ a < 2 ^ s.cfg.aw ∧ s.memWrite r a v = .ok { s with
      mem := Memory.write s.mem a (s.pick v (s.storeAlts a))
      memHist := s.memHist ++ [.write a v]
      draws := s.drawsAfter (s.storeAlts a) }) ∨
    ∃ e, s.portStop r a = some e ∧ e ≠ .desync ∧ s.memWrite r a v = .error e := by
  unfold State.memWrite
  cases h : s.portStop r a with
  | none => exact .inl ⟨((portStop_none_iff s r a).mp h).1, ((portStop_none_iff s r a).mp h).2, rfl⟩
  | some e => exact .inr ⟨e, rfl, fun he => portStop_ne_desync s r a (he ▸ h), rfl⟩

/-! ### Closing a step -/

/-- An event step that answers a next state handled its snapshot or desynced. -/
theorem closeStep_next {s t : State} {x : Except Abort State} (h : closeStep s x = .next t) :
    x = .ok t ∨ (x = .error .desync ∧ t = s.takeDesync) := by
  unfold closeStep at h
  split at h <;> simp_all

/-- Everything an event step on a masked snapshot can do. -/
theorem eventStepOn_next {s t : State} {e : Snap} {r : PortReply} (h : eventStepOn e r s = .next t) :
    (s.deliverable e = false ∧ t = s) ∨
    (s.deliverable e = true ∧ handle e r s = .ok t) ∨
    (s.deliverable e = true ∧ handle e r s = .error .desync ∧ t = s.takeDesync) := by
  unfold eventStepOn at h
  split at h
  · rename_i hd
    rcases closeStep_next h with h | ⟨h, h'⟩
    · exact .inr (.inl ⟨hd, h⟩)
    · exact .inr (.inr ⟨hd, h, h'⟩)
  · rename_i hd
    exact .inl ⟨by simpa using hd, by simpa using h.symm⟩

theorem settle_next {x : Result} {t : State} (h : settle x = .next t) :
    ∃ u, x = .next u ∧ t = u.dropSettledRaces := by
  cases x <;> simp_all [settle]

/-- Everything a step can do, when it answers a next state. -/
theorem step_next {s t : State} (h : step s = .next t) :
    (s.inputs = [] ∧ t = s) ∨
    ∃ x rest u, s.inputs = x :: rest ∧ agentStep x.act (s.takeInput x rest) = .next u ∧
      t = u.dropSettledRaces := by
  unfold step nextStep at h
  split at h
  · rename_i hi
    exact .inl ⟨hi, by simpa using h.symm⟩
  · rename_i x rest hi
    obtain ⟨u, hu, ht⟩ := settle_next h
    exact .inr ⟨x, rest, u, hi, hu, ht⟩

/-! ### Command issue and CSR decode -/

/-- Everything a host write to CMD can do (44_lifecycle R250). -/
theorem cmdWrite_cases (w : Word) (s : State) :
    (s.fatal = true ∧ cmdWrite w s = .next s) ∨
    (s.fatal = false ∧ s.cmdstat.busy = true ∧
      cmdWrite w s = .next { s with cmdstat := { s.cmdstat with ovr := true } }) ∨
    (s.fatal = false ∧ s.cmdstat.busy = false ∧ ∃ x, decode s.cfg w = .error x ∧
      cmdWrite w s = .next (s.recordOp w).illegalWord) ∨
    (s.fatal = false ∧ s.cmdstat.busy = false ∧ ∃ i, decode s.cfg w = .ok i ∧
      cmdWrite w s = exec i (s.recordOp w)) := by
  unfold cmdWrite
  cases s.fatal
  · cases s.cmdstat.busy
    · cases hd : decode s.cfg w with
      | error x => exact .inr (.inr (.inl ⟨rfl, rfl, x, rfl, rfl⟩))
      | ok i => exact .inr (.inr (.inr ⟨rfl, rfl, i, rfl, rfl⟩))
    · exact .inr (.inl ⟨rfl, rfl, rfl⟩)
  · exact .inl ⟨rfl, rfl⟩

/-- Every command answers a next state: the core has no trap (60 R270). -/
theorem exec_answers_next (i : Instr) (s : State) : ∃ t, exec i s = .next t := by
  cases i <;>
    simp only [exec, execInit, execEnable, execStart, execStop, execMasterWriteBuf, execMasterReadBuf,
      execMasterSendStart, execMasterSendRestart, execMasterSendStop, execMasterWriteByte,
      execMasterReadByte, execMasterStatus, execMasterClearStatus, execMasterGetReadBufSize,
      execMasterGetWriteBufSize, execMasterClearReadBuf, execMasterClearWriteBuf,
      execSlaveSetAddress, execSlaveInitReadBuf, execSlaveInitWriteBuf, execSlaveStatus,
      execSlaveClearReadStatus, execSlaveClearWriteStatus, execSlaveGetReadBufSize,
      execSlaveGetWriteBufSize, execSlaveClearReadBuf, execSlaveClearWriteBuf] <;>
    repeat' split
  all_goals exact ⟨_, rfl⟩

/-- Under FATAL no host write to a CSR does anything (60 R275). -/
theorem writeCsr_fatal (off : Nat) (v : Word) (s : State) (h : s.fatal = true) :
    writeCsr off v s = .next s := by simp [writeCsr, h]

/-- A host write to the CMD register is the command issue, under FATAL too (44_lifecycle R250). -/
theorem writeCsr_cmd (v : Word) (s : State) : writeCsr 0x00 v s = cmdWrite v s := by
  cases h : s.fatal <;> simp [writeCsr, cmdWrite, h]

/-- A host write to a CSR that is a command, or one register, or nothing (10_state R23, 60 R275). -/
theorem writeCsr_cases (off : Nat) (v : Word) (s : State) :
    (off = 0x00 ∧ writeCsr off v s = cmdWrite v s) ∨
    (off = 0x0C ∧ s.fatal = false ∧ writeCsr off v s = .next { s with ptr := truncPtr s.cfg v }) ∨
    (off = 0x10 ∧ s.fatal = false ∧ writeCsr off v s = .next { s with cnt := truncCnt s.cfg v }) ∨
    (off = 0x2C ∧ s.fatal = false ∧
      writeCsr off v s = .next { s with clkdiv := v.setWidth 16 }) ∨
    (off ≠ 0x00 ∧ (s.fatal = true ∨ (off ≠ 0x0C ∧ off ≠ 0x10 ∧ off ≠ 0x2C)) ∧
      writeCsr off v s = .next s) := by
  by_cases h0 : off = 0x00
  · exact .inl ⟨h0, h0 ▸ writeCsr_cmd v s⟩
  · cases h : s.fatal
    · unfold writeCsr
      simp only [h, Bool.false_eq_true, if_false]
      split <;> simp_all
    · simp [h0, writeCsr_fatal off v s h]

/-- CMD is at offset 0 of the window. -/
theorem csrOffset_cmd (c : Config) : csrOffset c c.csrBase .bits32 = .ok 0 := by
  have h : ¬ (c.csrBase.toNat < c.csrBase.toNat ∨ c.csrBase.toNat + 256 ≤ c.csrBase.toNat) := by
    omega
  simp [csrOffset]

end Sys2Proof.Machine
end

