-- ==== Sys2Proof/Laws/PerInstr.lean ====
section
/-! SUPPORT. Facts about every command as syntax, one lemma per constructor: the encoding of a command
passes the mask test of its format (30_encoding R88). -/

namespace Sys2Proof.Laws.EncodeFormat

/-- The encoded word keeps to the format the opcode map gives its opcode (30_encoding R81 to R88). -/
def Statement (i : Instr) : Prop :=
  ∃ f, opcodeFormat i.opcode = some f ∧ opField (encode i) = i.opcode ∧
    encode i &&& f.mask = i.opcode.setWidth 32 <<< 24

theorem init : Statement .init := ⟨.N, by decide⟩
theorem enable : Statement .enable := ⟨.N, by decide⟩
theorem start : Statement .start := ⟨.N, by decide⟩
theorem stop : Statement .stop := ⟨.N, by decide⟩
theorem masterWriteBuf (a7 : Addr7) (mode : TransferMode) : Statement (.masterWriteBuf a7 mode) := by
  refine ⟨.BUF, ?_⟩
  obtain ⟨r, n⟩ := mode
  revert a7 r n
  decide
theorem masterReadBuf (a7 : Addr7) (mode : TransferMode) : Statement (.masterReadBuf a7 mode) := by
  refine ⟨.BUF, ?_⟩
  obtain ⟨r, n⟩ := mode
  revert a7 r n
  decide
theorem masterSendStart (a7 : Addr7) (rw : Dir) : Statement (.masterSendStart a7 rw) := by
  refine ⟨.SR, ?_⟩
  cases rw <;> revert a7 <;> decide
theorem masterSendRestart (a7 : Addr7) (rw : Dir) : Statement (.masterSendRestart a7 rw) := by
  refine ⟨.SR, ?_⟩
  cases rw <;> revert a7 <;> decide
theorem masterSendStop : Statement .masterSendStop := ⟨.N, by decide⟩
theorem masterWriteByte (d8 : Byte) : Statement (.masterWriteByte d8) := by
  refine ⟨.WB, ?_⟩
  revert d8
  decide
theorem masterReadByte (ack : Bool) : Statement (.masterReadByte ack) := by
  refine ⟨.RB, ?_⟩
  cases ack <;> decide
theorem masterStatus : Statement .masterStatus := ⟨.N, by decide⟩
theorem masterClearStatus : Statement .masterClearStatus := ⟨.N, by decide⟩
theorem masterGetReadBufSize : Statement .masterGetReadBufSize := ⟨.N, by decide⟩
theorem masterGetWriteBufSize : Statement .masterGetWriteBufSize := ⟨.N, by decide⟩
theorem masterClearReadBuf : Statement .masterClearReadBuf := ⟨.N, by decide⟩
theorem masterClearWriteBuf : Statement .masterClearWriteBuf := ⟨.N, by decide⟩
theorem slaveSetAddress (a7 : Addr7) : Statement (.slaveSetAddress a7) := by
  refine ⟨.SA, ?_⟩
  revert a7
  decide
theorem slaveInitReadBuf : Statement .slaveInitReadBuf := ⟨.N, by decide⟩
theorem slaveInitWriteBuf : Statement .slaveInitWriteBuf := ⟨.N, by decide⟩
theorem slaveStatus : Statement .slaveStatus := ⟨.N, by decide⟩
theorem slaveClearReadStatus : Statement .slaveClearReadStatus := ⟨.N, by decide⟩
theorem slaveClearWriteStatus : Statement .slaveClearWriteStatus := ⟨.N, by decide⟩
theorem slaveGetReadBufSize : Statement .slaveGetReadBufSize := ⟨.N, by decide⟩
theorem slaveGetWriteBufSize : Statement .slaveGetWriteBufSize := ⟨.N, by decide⟩
theorem slaveClearReadBuf : Statement .slaveClearReadBuf := ⟨.N, by decide⟩
theorem slaveClearWriteBuf : Statement .slaveClearWriteBuf := ⟨.N, by decide⟩

end Sys2Proof.Laws.EncodeFormat
end

