-- ==== Sys2Proof/Tests/Slice0.lean ====
section
/-! SUPPORT. Tests of the model, with results worked out from the rules' examples and 95_test_vectors
(named in each comment), and for each statement that has hypotheses a concrete instance meeting them. -/

namespace Sys2Proof.Tests

open Sys2Proof.Machine

/-! ### Helpers -/

/-- The result is a next state with a property. -/
def after (r : Result) (p : State → Bool) : Bool :=
  match r with
  | .next t => p t
  | .fault _ | .refused _ => false

/-- The step that issues a command word. -/
def issue (w : Nat) (s : State) : Result := step (s.withFetchWord 32 w)

/-- A property of the four descriptors. -/
theorem all_bufs {p : BufId → Prop} (h : p .mrd ∧ p .mwr ∧ p .srd ∧ p .swr) : ∀ b, p b := by
  obtain ⟨h1, h2, h3, h4⟩ := h
  intro b
  cases b <;> assumption

/-- All four descriptors pass a test. -/
def descsAll (s : State) (p : Desc → Bool) : Bool := p s.mrd && p s.mwr && p s.srd && p s.swr

/-- The invariant of a state, as a conjunction that `decide` evaluates. -/
abbrev InvParts (s : State) : Prop :=
  descsAll s (fun d => decide (d.idx.toNat ≤ d.cap.toNat)) = true ∧
  (s.stopIe = true → s.bus.inTransfer = true ∨ s.bus = .swd) ∧
  (s.mstat.xferInp = true → s.bus.inTransfer = true) ∧
  (s.cmdstat.busy = true → s.mstat.xferInp = false ∧ s.en = true ∧ s.bus.isMaster = true) ∧
  (s.sstat.rdBusy = true ↔ s.bus = .srd) ∧ (s.sstat.wrBusy = true ↔ s.bus = .swd) ∧
  (s.fatal = true → s.cfg.timeoutEn = false) ∧ (s.desync = true → s.cfg.timeoutEn = true) ∧
  descsAll s (fun d => decide (d.ptr.toNat + d.cap.toNat ≤ 2 ^ s.cfg.aw)) = true ∧
  (s.en = false → s.bus = .idle ∧ s.stopIe = false ∧ s.mstat.xferInp = false ∧
    s.sstat.rdBusy = false ∧ s.sstat.wrBusy = false ∧ s.cmdstat.busy = false) ∧
  (s.stopIe = true → s.bus.isMaster = true → s.mstat.xferInp = true) ∧
  (s.cmdstat.wstop = true → s.cmdstat.busy = true) ∧
  (s.cmdstat.busy = true → s.pendingPhaseOk = true) ∧
  (s.mstat.xferInp = true → s.dirAgrees = true) ∧
  s.ptr.toNat < 2 ^ s.cfg.aw ∧ s.cnt.toNat < 2 ^ s.cfg.cntW ∧
  descsAll s (fun d => decide (d.ptr.toNat < 2 ^ s.cfg.aw)) = true ∧
  descsAll s (fun d => decide (d.cap.toNat < 2 ^ s.cfg.cntW)) = true ∧ Memory.wf s.mem = true

theorem inv_of {s : State} (h : InvParts s) : s.Inv := by
  obtain ⟨h1, h2, h3, h4, h5, h6, h7, h8, h9, h10, h11, h12, h13, h14, h15, h16, h17, h18, h19⟩ := h
  simp only [descsAll, Bool.and_eq_true, decide_eq_true_eq] at h1 h9 h17 h18
  refine ⟨all_bufs ?_, h2, h3, h4, h5, h6, h7, h8, all_bufs ?_, h10, h11, h12, h13, h14, h15, h16,
    all_bufs ?_, all_bufs ?_, h19⟩ <;> simp_all [State.buf]

/-! ### States

S0 and S1 of 95_test_vectors, and small states of each phase. -/

/-- S0: reset, then START. -/
def s0 : State :=
  { State.reset with
    en := true, inited := true, cmdstat := ⟨false, false, false, .noError, 0x03⟩ }

/-- S1 with both slave buffers installed. -/
def s1 : State :=
  { s0 with
    saddr := 0x10, srd := ⟨0x300, 4, 0⟩, swr := ⟨0x400, 2, 0⟩
    mem := [(0x300, 0xDE), (0x301, 0xAD), (0x302, 0xBE), (0x303, 0xEF)] }

def withOperands (s : State) (p : Word) (n : Count) : State := { s with ptr := p, cnt := n }
def withBus (s : State) (b : BusState) : State := { s with bus := b }
def withConfig (s : State) (c : Config) : State := { s with cfg := c }
def withMstat (s : State) (m : MStat) : State := { s with mstat := m }
def withSstat (s : State) (m : SStat) : State := { s with sstat := m }
def awaitingStop (s : State) : State := { s with stopIe := true }
def busBusyOn (s : State) : State := { s with busBusy := true }
def halted (s : State) : State := { s with fatal := true }
def desynced (s : State) : State := { s with desync := true }
def given (s : State) (l : List Input) : State := { s with inputs := l }

def watchdog : Config := { Config.standard with timeoutEn := true }
def noMaster : Config := { Config.standard with masterEn := false }
def noSlave : Config := { Config.standard with slaveEn := false }
def oneMaster : Config := { Config.standard with multiMaster := false }
def hwDecode : Config := { Config.standard with hwAddrDecode := true }

/-- A buffered write in flight: MWR = {0x100, cap, idx}. -/
def sW (b : BusState) (cap idx : Count) (noStop : Bool) : State :=
  { s0 with
    bus := b, mstat := { MStat.zero with xferInp := true }
    mmode := ⟨⟨false, noStop⟩, .write, 0x50⟩, mwr := ⟨0x100, cap, idx⟩
    mem := [(0x100, 0xA1), (0x101, 0xB2), (0x102, 0xC3)] }

/-- A buffered read in flight: MRD = {0x200, cap, idx}. -/
def sR (b : BusState) (cap idx : Count) (noStop : Bool) : State :=
  { s0 with
    bus := b, mstat := { MStat.zero with xferInp := true }
    mmode := ⟨⟨false, noStop⟩, .read, 0x50⟩, mrd := ⟨0x200, cap, idx⟩ }

/-- Addressed for read, `idx` bytes of SRD sent. -/
def sSrd (idx : Count) : State :=
  { s1 with bus := .srd, sstat := { SStat.zero with rdBusy := true }, srd := ⟨0x300, 4, idx⟩ }

/-- Addressed for write, `idx` bytes stored in SWR. -/
def sSwd (idx : Count) : State :=
  { s1 with
    bus := .swd, stopIe := true, sstat := { SStat.zero with wrBusy := true }
    swr := ⟨0x400, 2, idx⟩ }

/-- A manual command pending. -/
def sM (b : BusState) (lastop : Byte) (wstop marg : Bool) : State :=
  { s0 with bus := b, marg := marg, cmdstat := ⟨true, false, wstop, .noError, lastop⟩ }

/-- A snapshot word with every bit the PHY may deliver. -/
def ev (w : SnapWord) : Snap := snapOf watchdog w

/-! ### Well-formedness smoke -/

theorem test_wf_refuses_absent_master : (Instr.masterWriteByte 0xA5).wf noMaster = false := by decide
theorem test_wf_refuses_absent_slave : (Instr.slaveSetAddress 0x10).wf noSlave = false := by decide
theorem test_wf_accepts_what_is_present :
    Instr.init.wf { noMaster with slaveEn := false } = true ∧
      (Instr.masterWriteByte 0xA5).wf noSlave = true ∧
      (Instr.slaveSetAddress 0x10).wf noMaster = true := by decide
theorem test_config_wf_standard : Config.standard.wf = true := by decide
theorem test_config_wf_refuses_aw_0 : ({ Config.standard with aw := 0 } : Config).wf = false := by
  decide
theorem test_config_wf_refuses_aw_33 : ({ Config.standard with aw := 33 } : Config).wf = false := by
  decide
theorem test_config_wf_refuses_cntW_0 :
    ({ Config.standard with cntW := 0 } : Config).wf = false := by decide
theorem test_config_wf_refuses_cntW_17 :
    ({ Config.standard with cntW := 17 } : Config).wf = false := by decide
theorem test_config_wf_refuses_base_too_high :
    ({ Config.standard with aw := 16, csrBase := 0x10000 } : Config).wf = false := by decide

/-! ### Decoding: each row's word, from 30_encoding R81 to R87 and the rows' own R-rules -/

/-- R251 to R254: words 0x01000000 to 0x04000000. -/
theorem test_decode_lifecycle :
    decodeTableWord 32 0x01000000 = some .init ∧ decodeTableWord 32 0x02000000 = some .enable ∧
    decodeTableWord 32 0x03000000 = some .start ∧ decodeTableWord 32 0x04000000 = some .stop := by
  decide
/-- R82: opcode, 0, a7 = 1010000, zeros, n, r. -/
theorem test_decode_masterWriteBuf :
    decode Config.standard 0b00010000010100000000000000000001#32 =
      .ok (.masterWriteBuf 0x50 ⟨true, false⟩) := by decide
/-- R82, E2: NO_STOP is bit 1. -/
theorem test_decode_masterReadBuf :
    decode Config.standard 0b00010001010100000000000000000010#32 =
      .ok (.masterReadBuf 0x50 ⟨false, true⟩) := by decide
/-- R83, E4: w = 1 is read. -/
theorem test_decode_masterSendStart :
    decode Config.standard 0b00010010000100000000000000000001#32 =
      .ok (.masterSendStart 0x10 .read) := by decide
/-- R83, E5. -/
theorem test_decode_masterSendRestart :
    decode Config.standard 0b00010011010100000000000000000000#32 =
      .ok (.masterSendRestart 0x50 .write) := by decide
/-- R84, E6: the byte is bits 15..8. -/
theorem test_decode_masterWriteByte :
    decode Config.standard 0b00010101000000001010010100000000#32 =
      .ok (.masterWriteByte 0xA5) := by decide
/-- R85, E7: k = 1 is ACK. -/
theorem test_decode_masterReadByte :
    decode Config.standard 0b00010110000000000000000000000001#32 = .ok (.masterReadByte true) ∧
    decode Config.standard 0b00010110000000000000000000000000#32 = .ok (.masterReadByte false) := by
  decide
/-- R81, R87: opcodes 0x14 and 0x17 to 0x1C. -/
theorem test_decode_master_formatN :
    decodeTableWord 32 0x14000000 = some .masterSendStop ∧
    decodeTableWord 32 0x17000000 = some .masterStatus ∧
    decodeTableWord 32 0x18000000 = some .masterClearStatus ∧
    decodeTableWord 32 0x19000000 = some .masterGetReadBufSize ∧
    decodeTableWord 32 0x1A000000 = some .masterGetWriteBufSize ∧
    decodeTableWord 32 0x1B000000 = some .masterClearReadBuf ∧
    decodeTableWord 32 0x1C000000 = some .masterClearWriteBuf := by decide
/-- R86, E9: the highest address. -/
theorem test_decode_slaveSetAddress :
    decode Config.standard 0b00100000011111110000000000000000#32 =
      .ok (.slaveSetAddress 0x7F) := by decide
/-- R81, R87: opcodes 0x21 to 0x29. -/
theorem test_decode_slave_formatN :
    decodeTableWord 32 0x21000000 = some .slaveInitReadBuf ∧
    decodeTableWord 32 0x22000000 = some .slaveInitWriteBuf ∧
    decodeTableWord 32 0x23000000 = some .slaveStatus ∧
    decodeTableWord 32 0x24000000 = some .slaveClearReadStatus ∧
    decodeTableWord 32 0x25000000 = some .slaveClearWriteStatus ∧
    decodeTableWord 32 0x26000000 = some .slaveGetReadBufSize ∧
    decodeTableWord 32 0x27000000 = some .slaveGetWriteBufSize ∧
    decodeTableWord 32 0x28000000 = some .slaveClearReadBuf ∧
    decodeTableWord 32 0x29000000 = some .slaveClearWriteBuf := by decide
/-- E10 to E20: words that are ILLEGAL. -/
theorem test_decode_illegal :
    [0x20FF0000, 0x10500004, 0x00000000, 0x05000000, 0x0F000000, 0x1D000000, 0x1F000000, 0x2A000000,
      0xFF000000, 0x01000001, 0x14000100, 0x1500A501, 0x15010000, 0x16000002, 0x12100002,
      0x10508000].all (fun w => decodeTableWord 32 w == none) = true := by decide
/-- E21, E22. -/
theorem test_decode_absent_role :
    decode noMaster 0x10500000 = .error .absent ∧ decode noMaster 0x01000000 = .ok .init ∧
      decode noSlave 0x20100000 = .error .absent := by decide

/-! ### One step of each command -/

/-- Y2, R251. -/
theorem test_init : after (issue 0x01000000 State.reset) (fun t =>
    t.inited && !t.en && t.cmdstat == ⟨false, false, false, .noError, 0x01⟩) = true := by decide
/-- Y3: CMDSTAT = 0x00010200. -/
theorem test_init_refused : after (issue 0x01000000 s0) (fun t =>
    readCsr t 0x04 == 0x00010200) = true := by decide
/-- Y4. -/
theorem test_enable : after (issue 0x02000000 State.reset) (fun t => t.en && !t.inited) = true := by
  decide
/-- S0: STATE = 0x00000500, CMDSTAT = 0x00030000. -/
theorem test_start : after (issue 0x03000000 State.reset) (fun t =>
    readCsr t 0x14 == 0x00000500 && readCsr t 0x04 == 0x00030000) = true := by decide
/-- Y7: MSTAT = 0x80, Idle, EN = 0, actions [RELEASE]. -/
theorem test_stop : after (issue 0x04000000 (sW .mwd 2 1 false)) (fun t =>
    readCsr t 0x18 == 0x80 && t.bus == .idle && !t.en && t.actions == [.release]) = true := by decide
/-- R161, W2 step 1. -/
theorem test_masterWriteBuf : after (issue 0x10500000 (withOperands s0 0x100 2)) (fun t =>
    t.mwr == ⟨0x100, 2, 0⟩ && readCsr t 0x24 == 0x00500000 && readCsr t 0x18 == 0x04 &&
      t.data == 0xA0 && t.bus == .mwa && t.actions == [.start 0xA0] &&
      readCsr t 0x04 == 0x00100000) = true := by decide
/-- CS8: PTR + CNT past 2^32. -/
theorem test_masterWriteBuf_past_top :
    after (issue 0x10500000 (withOperands s0 0xFFFFFFFF 2)) (fun t =>
      readCsr t 0x04 == 0x00100200 && t.bus == .idle && t.actions == []) = true := by decide
/-- R162. -/
theorem test_masterReadBuf : after (issue 0x11500002 (withOperands s0 0x200 3)) (fun t =>
    t.mrd == ⟨0x200, 3, 0⟩ && readCsr t 0x24 == 0x00500102 && t.data == 0xA1 && t.bus == .mra &&
      t.actions == [.start 0xA1] && t.cmdstat.code == .noError) = true := by decide
/-- BF7: from MH a Restart, and no bus-busy check. -/
theorem test_masterReadBuf_restart :
    after (issue 0x11500001 (busBusyOn (withBus (withOperands s0 0x200 1) .mh))) (fun t =>
      t.actions == [.restart 0xA1] && t.bus == .mra && t.cmdstat.code == .noError) = true := by decide
/-- M1: CMDSTAT = 0x00120001. -/
theorem test_masterSendStart : after (issue 0x12100001 s0) (fun t =>
    t.bus == .mra && t.data == 0x21 && readCsr t 0x04 == 0x00120001 &&
      t.actions == [.start 0x21]) = true := by decide
/-- M5: CMDSTAT = 0x00120100. -/
theorem test_masterSendStart_bus_busy : after (issue 0x12100000 (busBusyOn s0)) (fun t =>
    readCsr t 0x04 == 0x00120100 && t.actions == []) = true := by decide
/-- R192. -/
theorem test_masterSendRestart : after (issue 0x13500000 (withBus s0 .mh)) (fun t =>
    t.actions == [.restart 0xA0] && t.bus == .mwa && t.cmdstat.busy) = true := by decide
/-- M13. -/
theorem test_masterSendRestart_idle : after (issue 0x13500000 s0) (fun t =>
    t.cmdstat.code == .notReady && t.bus == .idle) = true := by decide
/-- M11: CMDSTAT = 0x00140005. -/
theorem test_masterSendStop : after (issue 0x14000000 (withBus s0 .mh)) (fun t =>
    readCsr t 0x04 == 0x00140005 && t.actions == [.stop] && t.bus == .mh) = true := by decide
/-- M4: a buffered transfer is in flight. -/
theorem test_masterSendStop_buffered : after (issue 0x14000000 (sW .mwa 2 0 false)) (fun t =>
    t.cmdstat.code == .notReady && t.actions == []) = true := by decide
/-- M7. -/
theorem test_masterWriteByte : after (issue 0x1500A500 (withBus s0 .mwd)) (fun t =>
    t.data == 0xA5 && t.actions == [.tx 0xA5] && t.bus == .mwd && t.cmdstat.busy) = true := by decide
/-- R195: from MRD; MARG is the acknowledge bit asked for. -/
theorem test_masterReadByte : after (issue 0x16000001 (withBus s0 .mrd)) (fun t =>
    t.actions == [.rx] && t.marg && t.cmdstat.busy) = true := by decide
/-- BF18: MSTAT = 0x02, EN = 0. -/
theorem test_masterStatus :
    after (issue 0x17000000 (withMstat State.reset { MStat.zero with wrCmplt := true })) (fun t =>
      t.rdata == 0x02 && readCsr t 0x18 == 0x02 && t.cmdstat.code == .noError) = true := by decide
/-- BF15: MSTAT = 0x86. -/
theorem test_masterClearStatus :
    after (issue 0x18000000
      (withMstat (withBus s0 .mwd) ⟨false, true, true, false, false, false, false, true⟩)) (fun t =>
        t.rdata == 0x86 && readCsr t 0x18 == 0x04) = true := by decide
/-- R165: a 3-byte read completed. -/
theorem test_masterGetReadBufSize :
    after (issue 0x19000000 { s0 with mrd := ⟨0x200, 3, 3⟩ }) (fun t => t.rdata == 3) = true := by
  decide
/-- W2 step 6. -/
theorem test_masterGetWriteBufSize :
    after (issue 0x1A000000 { s0 with mwr := ⟨0x100, 2, 2⟩ }) (fun t => t.rdata == 2) = true := by
  decide
/-- BF17. -/
theorem test_masterClearReadBuf :
    after (issue 0x1B000000 { s0 with mrd := ⟨0x200, 2, 2⟩ }) (fun t =>
      t.mrd == ⟨0x200, 2, 0⟩) = true := by decide
/-- R168. -/
theorem test_masterClearWriteBuf :
    after (issue 0x1C000000 { s0 with mwr := ⟨0x100, 2, 2⟩ }) (fun t =>
      t.mwr == ⟨0x100, 2, 0⟩) = true := by decide
/-- SC1: allowed with EN = 0. -/
theorem test_slaveSetAddress : after (issue 0x20100000 State.reset) (fun t =>
    t.saddr == 0x10 && t.cmdstat.code == .noError) = true := by decide
/-- R222. -/
theorem test_slaveInitReadBuf : after (issue 0x21000000 (withOperands s0 0x300 4)) (fun t =>
    t.srd == ⟨0x300, 4, 0⟩ && t.cmdstat.code == .noError) = true := by decide
/-- SC3: a null pointer with a count. -/
theorem test_slaveInitReadBuf_null : after (issue 0x21000000 (withOperands s1 0 4)) (fun t =>
    t.srd == ⟨0x300, 4, 0⟩ && t.cmdstat.code == .notReady) = true := by decide
/-- R223. -/
theorem test_slaveInitWriteBuf : after (issue 0x22000000 (withOperands s0 0x400 8)) (fun t =>
    t.swr == ⟨0x400, 8, 0⟩) = true := by decide
/-- SC4. -/
theorem test_slaveInitWriteBuf_past_top :
    after (issue 0x22000000 (withOperands s0 0xFFFFFFFF 2)) (fun t =>
      t.swr == .zero && t.cmdstat.code == .notReady) = true := by decide
/-- R224: SSTAT = 0x05. -/
theorem test_slaveStatus :
    after (issue 0x23000000 (withSstat s1 ⟨true, false, true, false, false, false⟩)) (fun t =>
      t.rdata == 0x05) = true := by decide
/-- SC5: SSTAT = 0x15. -/
theorem test_slaveClearReadStatus :
    after (issue 0x24000000 (withSstat s1 ⟨true, false, true, true, false, false⟩)) (fun t =>
      t.rdata == 0x15 && readCsr t 0x1C == 0x10) = true := by decide
/-- SC7: SSTAT = 0x30; WR_BUSY is live. -/
theorem test_slaveClearWriteStatus :
    after (issue 0x25000000 (withSstat (sSwd 1) ⟨false, false, false, true, true, false⟩)) (fun t =>
      t.rdata == 0x30 && readCsr t 0x1C == 0x20) = true := by decide
/-- SC8. -/
theorem test_slaveGetReadBufSize :
    after (issue 0x26000000 { s1 with srd := ⟨0x300, 4, 4⟩ }) (fun t => t.rdata == 4) = true := by
  decide
/-- SC9. -/
theorem test_slaveGetWriteBufSize :
    after (issue 0x27000000 { s1 with swr := ⟨0x400, 2, 2⟩ }) (fun t => t.rdata == 2) = true := by
  decide
/-- R229. -/
theorem test_slaveClearReadBuf :
    after (issue 0x28000000 { s1 with srd := ⟨0x300, 4, 4⟩ }) (fun t =>
      t.srd == ⟨0x300, 4, 0⟩) = true := by decide
/-- R230. -/
theorem test_slaveClearWriteBuf :
    after (issue 0x29000000 { s1 with swr := ⟨0x400, 8, 3⟩ }) (fun t =>
      t.swr == ⟨0x400, 8, 0⟩) = true := by decide
/-- Y14, E11: CMDSTAT = 0x00100700. -/
theorem test_illegal : after (issue 0x10500004 s0) (fun t => readCsr t 0x04 == 0x00100700) = true := by
  decide
/-- M19: CMDSTAT = 0x00120003. -/
theorem test_overrun : after (issue 0x17000000 (sM .mra 0x12 false true)) (fun t =>
    readCsr t 0x04 == 0x00120003 && t.rdata == 0) = true := by decide

/-! ### CSR window -/

/-- CS2: CNT keeps its low 16 bits. -/
theorem test_csr_cnt_truncates :
    after (step (given s0 [⟨false, .csrWrite 0x10 .bits32 0x00012345⟩])) (fun t =>
      readCsr t 0x10 == 0x00002345) = true := by decide
/-- CS4: MSTAT ignores host writes. -/
theorem test_csr_mstat_read_only :
    after (step (given s0 [⟨false, .csrWrite 0x18 .bits32 0xFF⟩])) (fun t =>
      readCsr t 0x18 == 0) = true := by decide
/-- Section 2, CSR field packing: STATE = 0x00010702. -/
theorem test_csr_state_word :
    readCsr (busBusyOn (awaitingStop (sW .mwd 2 1 false))) 0x14 = 0x00010702 := by decide
/-- A host read hands over the register. -/
theorem test_csr_read : after (step (given s0 [⟨false, .csrRead 0x14 .bits32⟩])) (fun t =>
    t.hostData == 0x00000500) = true := by decide

/-! ### Event engine -/

/-- R110, W2 step 2. -/
theorem test_event_address_ack : after (eventStep 0x0001 .grant (sW .mwa 2 0 false)) (fun t =>
    t.bus == .mwd && t.data == 0xA1 && t.mwr.idx == 1 && t.actions == [.tx 0xA1] &&
      t.memHist == [.read 0x100]) = true := by decide
/-- V1. -/
theorem test_event_address_nak : after (eventStep 0x0005 .grant (sW .mwa 2 0 false)) (fun t =>
    readCsr t 0x18 == 0xA4 && t.stopIe && t.bus == .mwa && t.actions == [.stop]) = true := by decide
/-- V4. -/
theorem test_event_short_write : after (eventStep 0x0005 .grant (sW .mwd 3 1 false)) (fun t =>
    t.mstat.errShortXfer && t.mstat.errXfer && t.stopIe && t.actions == [.stop]) = true := by decide
/-- V9: the byte, then the Stop. -/
theorem test_event_byte_then_stop : after (eventStep 0x0011 .grant (sW .mwd 2 2 false)) (fun t =>
    t.mstat.wrCmplt && t.bus == .idle && !t.stopIe && t.actions == [.stop]) = true := by decide
/-- V14. -/
theorem test_event_read_byte : after (eventStep 0x5A01 .grant (sR .mrd 2 0 false)) (fun t =>
    Memory.read t.mem 0x200 == 0x5A && t.mrd.idx == 1 && t.data == 0x5A &&
      t.actions == [.ack, .rx]) = true := by decide
/-- V15. -/
theorem test_event_last_byte : after (eventStep 0x3301 .grant (sR .mrd 2 1 false)) (fun t =>
    Memory.read t.mem 0x201 == 0x33 && t.mrd.idx == 2 && t.stopIe &&
      t.actions == [.nak, .stop]) = true := by decide
/-- V16. -/
theorem test_event_stop_completes :
    after (eventStep 0x0010 .grant (awaitingStop (sR .mrd 2 2 false))) (fun t =>
      readCsr t 0x18 == 0x01 && t.bus == .idle) = true := by decide
/-- V17. -/
theorem test_event_halt : after (eventStep 0x4401 .grant (sR .mrd 1 0 true)) (fun t =>
    t.bus == .mh && readCsr t 0x18 == 0x09 && t.actions == [.nak]) = true := by decide
/-- V27. -/
theorem test_event_lost_then_addressed :
    after (eventStep 0x200B .grant { sW .mwa 2 0 false with saddr := 0x10 }) (fun t =>
      readCsr t 0x18 == 0xC0 && t.bus == .swd && t.sstat.wrBusy && t.stopIe && t.data == 0x20 &&
        t.actions == [.release, .ack]) = true := by decide
/-- V11. -/
theorem test_event_desync : after (eventStep 0x2003 .grant (sW .mwd 2 1 false)) (fun t =>
    t == halted (sW .mwd 2 1 false)) = true := by decide
/-- X1: STATE = 0x00000D00; X3: STATE = 0x00001500. -/
theorem test_event_desync_outcomes :
    after (eventStep 0x1201 .grant s0) (fun t => readCsr t 0x14 == 0x00000D00) = true ∧
    after (eventStep 0x1201 .grant (withConfig s0 watchdog)) (fun t =>
      readCsr t 0x14 == 0x00001500) = true := by decide
/-- X9. -/
theorem test_event_timeout : after (eventStep 0x0040 .grant (withConfig (sSwd 0) watchdog)) (fun t =>
    t.sstat == .zero && !t.stopIe && t.bus == .idle && t.actions == [.release]) = true := by decide
/-- W1 step 1. -/
theorem test_event_slave_read : after (eventStep 0x2103 .grant s1) (fun t =>
    t.data == 0xDE && t.bus == .srd && t.sstat.rdBusy && t.srd.idx == 1 &&
      t.actions == [.ack, .tx 0xDE]) = true := by decide
/-- W1 step 5. -/
theorem test_event_sentinel : after (eventStep 0x0001 .grant (sSrd 4)) (fun t =>
    t.data == 0xFF && t.sstat.rdOvfl && t.actions == [.tx 0xFF]) = true := by decide
/-- SV5. -/
theorem test_event_slave_overflow : after (eventStep 0x3301 .grant (sSwd 2)) (fun t =>
    t.sstat.wrOvfl && t.data == 0x33 && t.mem == (sSwd 2).mem && t.bus == .swd &&
      t.actions == [.nak]) = true := by decide
/-- SV9: a Restart from a write to a read. -/
theorem test_event_slave_restart : after (eventStep 0x2103 .grant (sSwd 0)) (fun t =>
    readCsr t 0x1C == 0x12 && t.srd.idx == 1 && t.actions == [.ack, .tx 0xDE]) = true := by decide
/-- W3 steps 2 and 3: CMDSTAT = 0x00120005, then 0x00120300. -/
theorem test_event_manual_nak :
    after (eventStep 0x0005 .grant (sM .mwa 0x12 false false)) (fun t =>
      readCsr t 0x04 == 0x00120005 && t.actions == [.stop]) = true ∧
    after (eventStep 0x0010 .grant (sM .mwa 0x12 true false)) (fun t =>
      readCsr t 0x04 == 0x00120300 && t.bus == .idle && t.actions == []) = true := by decide
/-- M8: the byte is NAKed. -/
theorem test_event_manual_write_nak :
    after (eventStep 0x0005 .grant (sM .mwd 0x15 false false)) (fun t =>
      t.bus == .mh && t.cmdstat.code == .lbNak && !t.cmdstat.busy) = true := by decide
/-- M10. -/
theorem test_event_manual_read_nak :
    after (eventStep 0x3C01 .grant (sM .mrd 0x16 false false)) (fun t =>
      t.rdata == 0x3C && t.bus == .mh && t.actions == [.nak] && t.cmdstat.code == .noError) =
        true := by decide
/-- M17: NAK and Stop in one step. -/
theorem test_event_manual_nak_and_stop :
    after (eventStep 0x0015 .grant (sM .mwa 0x12 false false)) (fun t =>
      t.bus == .idle && t.cmdstat.code == .lbNak && t.actions == [.stop]) = true := by decide
/-- M18: an unrequested Stop desyncs, and nothing else changes. -/
theorem test_event_manual_stop_desyncs :
    after (eventStep 0x0011 .grant (sM .mwd 0x15 false false)) (fun t =>
      t == halted (sM .mwd 0x15 false false)) = true := by decide
/-- SV7: a data byte and the Stop in one snapshot. -/
theorem test_event_slave_byte_and_stop : after (eventStep 0x5511 .grant (sSwd 1)) (fun t =>
    Memory.read t.mem 0x401 == 0x55 && t.swr.idx == 2 && t.sstat.wrCmplt && t.bus == .idle &&
      t.actions == [.ack]) = true := by decide
/-- The address ACK of a zero-length write: R110 with R114, and BF19. -/
theorem test_event_zero_length_write :
    after (eventStep 0x0001 .grant (sW .mwa 0 0 false)) (fun t =>
      t.bus == .mwd && t.stopIe && t.actions == [.stop]) = true ∧
    after (eventStep 0x0001 .grant (sW .mwa 0 0 true)) (fun t =>
      t.bus == .mh && t.mstat.toByte == 0x0A && t.actions == []) = true := by decide
/-- R7, 93 I21: a faulted state and one that still waits are not final; S0 and MH with no wait are. -/
theorem test_final : s0.final = true ∧ (withBus s0 .mh).final = true ∧ (halted s0).final = false ∧
    (sW .mwd 2 1 false).final = false ∧ (sSrd 1).final = false ∧ (sSwd 1).final = false ∧
    (sM .mwd 0x15 false false).final = false := by decide
/-- R275: under FATAL a host write to PTR is ignored. -/
theorem test_csr_write_under_fatal : after (hostWrite 0x0C .bits32 7 (halted s0)) (fun t =>
    t == halted s0) = true := by decide
/-- R190, R302: MARG is 0 once no command is pending. -/
theorem test_event_marg_is_0_after_completion :
    after (eventStep 0x1101 .grant (sM .mrd 0x16 false true)) (fun t =>
      t.actions == [.ack] && t.bus == .mrd && !t.margBit) = true := by decide
/-- CS11: the launch memory refuses the access. -/
theorem test_event_stuck :
    (match eventStep 0x0001 .refuse (sW .mwa 2 0 false) with
      | .fault .memoryRefused => true
      | .next _ | .fault _ | .refused _ => false) = true := by decide

/-! ### Witnesses

For each statement with hypotheses, a state and operands that meet them: `witness_<statement>`, one for
each of its clauses. -/

theorem inv_samples :
    State.reset.Inv ∧ s0.Inv ∧ s1.Inv ∧ (sW .mwa 2 0 false).Inv ∧ (sSrd 4).Inv ∧ (sSwd 1).Inv ∧
      (awaitingStop (sW .mwd 2 2 false)).Inv ∧ (sM .mwd 0x15 false false).Inv :=
  ⟨inv_of (by decide), inv_of (by decide), inv_of (by decide), inv_of (by decide),
    inv_of (by decide), inv_of (by decide), inv_of (by decide), inv_of (by decide)⟩

theorem witness_DecodeOfEncodeIsTheCommand :
    (Instr.masterWriteBuf 0x7F ⟨true, true⟩).wf noSlave = true ∧
      (Instr.slaveSetAddress 0x7F).wf noMaster = true ∧
      Instr.stop.wf { noMaster with slaveEn := false } = true := by decide

theorem witness_DecodedWordIsTheEncoding :
    decode Config.standard 0x1500FF00 = .ok (.masterWriteByte 0xFF) ∧
      decode noMaster 0x207F0000 = .ok (.slaveSetAddress 0x7F) := by decide

/-- The opcodes at each edge of the reserved ranges, a reserved bit of each format at each edge of its
reserved fields, and both absent roles at each edge of their ranges. -/
theorem witness_IllegalWordsOnlySetCodeAndLastop :
    s0.fatal = false ∧ s0.cmdstat.busy = false ∧
    [0x00000000#32, 0x05000000#32, 0x0F000000#32, 0x1D000000#32, 0x1F000000#32, 0x2A000000#32,
      0xFF000000#32].all (fun w =>
        let op := (w.extractLsb' 24 8).toNat
        decide (op = 0 ∨ (0x05 ≤ op ∧ op ≤ 0x0F) ∨ (0x1D ≤ op ∧ op ≤ 0x1F) ∨ 0x2A ≤ op)) = true ∧
    [0x10000004#32, 0x11008000#32, 0x10800000#32].all (fun w => w &&& 0x0080FFFC#32 != 0) = true ∧
    [0x12000002#32, 0x13008000#32, 0x12800000#32].all (fun w => w &&& 0x0080FFFE#32 != 0) = true ∧
    [0x15000001#32, 0x15000080#32, 0x15010000#32, 0x15800000#32].all
      (fun w => w &&& 0x00FF00FF#32 != 0) = true ∧
    [0x16000002#32, 0x16800000#32].all (fun w => w &&& 0x00FFFFFE#32 != 0) = true ∧
    [0x20000001#32, 0x20008000#32, 0x20800000#32].all (fun w => w &&& 0x0080FFFF#32 != 0) = true ∧
    [0x01000001#32, 0x04800000#32, 0x14000100#32, 0x29000001#32].all
      (fun w => w &&& 0x00FFFFFF#32 != 0) = true ∧
    (withConfig s0 noMaster).cfg.masterEn = false ∧ (0x1C000000#32).extractLsb' 24 8 = 0x1C#8 ∧
    (withConfig s0 noSlave).cfg.slaveEn = false ∧ (0x29000000#32).extractLsb' 24 8 = 0x29#8 := by
  decide

theorem witness_StepRunsTheDecodedCommand :
    (given s0 [⟨true, .csrWrite s0.cfg.csrBase .bits32 0x12100001⟩]).inputs =
        ⟨true, .csrWrite s0.cfg.csrBase .bits32 0x12100001⟩ :: [] ∧
      s0.fatal = false ∧ s0.cmdstat.busy = false ∧
      decode s0.cfg 0x12100001 = .ok (.masterSendStart 0x10 .read) := by decide

theorem witness_StepLetsTheNextAgentMove :
    (given s0 [⟨true, .snapshot 0x0001 .grant⟩]).inputs = [⟨true, .snapshot 0x0001 .grant⟩] ∧
      (given s0 [⟨true, .memStore 0x100 7⟩]).inputs = [⟨true, .memStore 0x100 7⟩] ∧
      (given s0 [⟨true, .memLoad 0x100⟩]).inputs = [⟨true, .memLoad 0x100⟩] ∧
      (given s0 [⟨true, .csrWrite 0x0C .bits32 7⟩]).inputs = [⟨true, .csrWrite 0x0C .bits32 7⟩] ∧
      (given s0 [⟨true, .csrRead 0x14 .bits32⟩]).inputs = [⟨true, .csrRead 0x14 .bits32⟩] ∧
      s0.inputs = [] := by decide

theorem witness_CommandIssueGates :
    (halted s0).fatal = true ∧
      ((sM .mwd 0x15 false false).fatal = false ∧ (sM .mwd 0x15 false false).cmdstat.busy = true) ∧
      (s0.fatal = false ∧ s0.cmdstat.busy = false ∧ decode s0.cfg 0x02000000 = .ok .enable) := by
  decide

theorem witness_InitWritesTheListedElements : s0.en = true ∧ State.reset.en = false := by decide

theorem witness_EnableAndStartSetEn :
    s0.inited = true ∧ s0.en = true ∧ State.reset.inited = false ∧ State.reset.en = false := by decide

/-- PTR + CNT = 2^32 exactly; from Idle, and from MH with the bus busy. -/
theorem witness_BufferedCommandsArm :
    let a := withOperands s0 0xFFFFFFFE 2
    let b := busBusyOn (withBus a .mh)
    (a.en = true ∧ a.ptr ≠ 0 ∧ a.ptr.toNat + a.cnt.toNat = 2 ^ a.cfg.aw ∧ a.bus = .idle ∧
      a.busBusy = false) ∧
    (b.en = true ∧ b.ptr ≠ 0 ∧ b.ptr.toNat + b.cnt.toNat = 2 ^ b.cfg.aw ∧ b.bus = .mh) := by decide

theorem witness_BufferedRefusalsInCheckOrder :
    State.reset.en = false ∧
      ((sW .mwa 2 0 false).bus ≠ .idle ∧ (sW .mwa 2 0 false).bus ≠ .mh) ∧
      s0.bus = .idle ∧ (withBus s0 .mh).bus = .mh ∧ (withOperands s0 0 0).ptr = 0 ∧
      2 ^ 32 < (withOperands s0 0xFFFFFFFF 2).ptr.toNat + (withOperands s0 0xFFFFFFFF 2).cnt.toNat ∧
      (let t := busBusyOn (withOperands s0 0xFFFFFFFE 2)
       t.en = true ∧ t.bus = .idle ∧ t.ptr ≠ 0 ∧ t.ptr.toNat + t.cnt.toNat ≤ 2 ^ t.cfg.aw ∧
         t.busBusy = true) := by decide

theorem witness_ManualAddressCommandsBecomePending :
    (s0.en = true ∧ s0.mstat.xferInp = false) ∧ (s0.bus = .idle ∧ s0.busBusy = false) ∧
      (busBusyOn s0).busBusy = true ∧
      [BusState.mwa, .mwd, .mra, .mrd, .mh, .swd, .srd].all (fun b =>
        (withBus s0 b).en && !(withBus s0 b).mstat.xferInp && (withBus s0 b).bus != .idle) = true := by
  decide

theorem witness_ManualStopAndByteCommandsBecomePending :
    [BusState.idle, .mwd, .mrd, .mh, .mwa].all (fun b =>
      (withBus s0 b).en && !(withBus s0 b).mstat.xferInp && (withBus s0 b).bus == b) = true := by decide

theorem witness_ManualCommandsNeedEnableAndNoTransfer :
    State.reset.en = false ∧ (sW .mwd 2 1 false).mstat.xferInp = true ∧
      (sW .mwd 2 1 false).en = true := by decide

/-- The sum exactly 2^32; the null pointer with a zero count; the null pointer with the least count; the
sum one past 2^32. -/
theorem witness_SlaveBuffersInstallInEveryState :
    (let a := withOperands (sSrd 1) 0xFFFF0001 0xFFFF
     a.ptr ≠ 0 ∧ a.ptr.toNat + a.cnt.toNat = 2 ^ a.cfg.aw) ∧
    (let a := withOperands State.reset 0 0
     a.cnt = 0 ∧ a.ptr.toNat + a.cnt.toNat ≤ 2 ^ a.cfg.aw) ∧
    (let a := withOperands s0 0 1
     a.ptr = 0 ∧ a.cnt ≠ 0) ∧
    (let a := withOperands s0 0xFFFFFFFF 2
     a.ptr.toNat + a.cnt.toNat = 2 ^ a.cfg.aw + 1) := by decide

/-- The invariants with narrow widths, PTR and CNT at their greatest values. -/
theorem witness_CsrFieldLayout :
    (withConfig (withOperands s0 0xFF 0xF) { Config.standard with aw := 8, cntW := 4 }).Inv ∧
      readCsr (withOperands s0 0xFF 0xF) 0x0C = 0xFF ∧ readCsr (withOperands s0 0xFF 0xF) 0x10 = 0xF :=
  ⟨inv_of (by decide), by decide⟩

/-- The last register of a window at the very top; FATAL; and writes that are kept or ignored. -/
theorem witness_CsrWritesKeepDefinedBits :
    (let c : Config := { Config.standard with csrBase := 0xFFFFFF00 }
     63 < 64 ∧ c.csrBase.toNat + 256 ≤ 2 ^ 32) ∧
    (halted s0).fatal = true ∧ s0.fatal = false ∧ s0.cfg.wf = true ∧ ({ Config.standard with aw := 1, cntW := 1 } : Config).wf = true ∧
      [0x04, 0x08, 0x14, 0x18, 0x60, 0xFC].all (fun off =>
        off != 0x00 && off != 0x0C && off != 0x10 && off != 0x2C) = true := by decide

/-- The last register of the window, with the window at the very top; and misaligned or narrow accesses at
the first and last byte. -/
theorem witness_HostReadsChangeNothing :
    (let c : Config := { Config.standard with csrBase := 0xFFFFFF00 }
     63 < 64 ∧ c.csrBase.toNat + 256 ≤ 2 ^ 32) ∧
    (s0.cfg.csrBase.toNat ≤ (0#32).toNat ∧ (0#32).toNat < s0.cfg.csrBase.toNat + 256 ∧
      AccessWidth.bits8 ≠ .bits32) ∧
    (s0.cfg.csrBase.toNat ≤ (255#32).toNat ∧ (255#32).toNat < s0.cfg.csrBase.toNat + 256 ∧
      ((255#32).toNat - s0.cfg.csrBase.toNat) % 4 ≠ 0) := by decide

theorem witness_ResetLeavesTheResetValues :
    (given (sW .mwd 3 1 false) [⟨true, .reset⟩]).inputs = ⟨true, .reset⟩ :: [] := by decide

/-- EN = 0; FATAL = 1; and no deliverable bit: STOP and SADDR alone, a masked arbitration bit, a Stop while a
command waits for no Stop. -/
theorem witness_UndeliverableSnapshotsAreDiscarded :
    State.reset.en = false ∧ (halted s0).fatal = true ∧
    [(s0, 0x0012#16), (s0, 0x0040#16), (withConfig s0 oneMaster, 0x0028#16),
      (sM .mwd 0x15 false false, 0x0010#16)].all (fun x =>
        decide (x.2.getLsbD 0 = false ∧ (x.2.getLsbD 3 = false ∨ x.1.cfg.multiMaster = false) ∧
          (x.2.getLsbD 5 = false ∨ x.1.cfg.multiMaster = false) ∧
          (x.2.getLsbD 6 = false ∨ x.1.cfg.timeoutEn = false) ∧
          (x.2.getLsbD 4 = false ∨
            (x.1.stopIe = false ∧ (x.1.cmdstat.busy = false ∨ x.1.cmdstat.wstop = false))))) =
      true := by decide

theorem witness_MaskedSnapshotBitsAreNotRead :
    (∀ k, k < 16 → k ≠ 7 → (k = 3 ∨ k = 5 → s0.cfg.multiMaster = true) →
      (k = 6 → s0.cfg.timeoutEn = true) → (0x00C1#16).getLsbD k = (0x0001#16).getLsbD k) ∧
    (∀ k, k < 16 → k ≠ 7 → (k = 3 ∨ k = 5 → oneMaster.multiMaster = true) →
      (k = 6 → oneMaster.timeoutEn = true) → (0x0028#16).getLsbD k = (0x0000#16).getLsbD k) := by
  constructor <;> intro k hk h7 h35 h6 <;> interval_cases k <;> revert h7 h35 h6 <;> decide

theorem witness_TimeoutRecovers :
    (sW .mwd 2 1 false).en = true ∧ (sW .mwd 2 1 false).fatal = false ∧
      (sM .mwa 0x12 false false).en = true ∧ (sM .mwa 0x12 false false).fatal = false ∧
      (ev 0x0040).timeout = true ∧ (ev 0xFF7F).timeout = true := by decide

theorem witness_DesynchronisedCoreDiscardsSnapshots :
    (desynced (withConfig s0 watchdog)).desync = true ∧ (ev 0x2103).timeout = false := by decide

/-- Both outcomes happen; a step of the kind fault; each from the snapshot of X1 and X3. -/
theorem witness_DesyncDropsTheWholeStep :
    (eventStep 0x1201 .grant s0 = .next (halted s0) ∧ s0.fatal = false ∧
      (halted s0).fatal = true) ∧
    (eventStep 0x1201 .grant (withConfig s0 watchdog) = .next (desynced (withConfig s0 watchdog)) ∧
      (withConfig s0 watchdog).desync = false ∧
      (desynced (withConfig s0 watchdog)).desync = true) ∧
    stepKind (given s0 [⟨false, .snapshot 0x1201 .grant⟩]) = .fault :=
  ⟨⟨rfl, rfl, rfl⟩, ⟨rfl, rfl, rfl⟩, by decide⟩

/-- A receptive state and a delivered snapshot for each of the nine cases of R274, in order, and one that
meets none. -/
theorem witness_DesyncExactlyOnTheListedSnapshots :
    [(withBus s0 .mh, 0x0008#16), (sW .mwd 2 1 false, 0x0020#16), (sW .mwd 2 1 false, 0x2003#16),
      (awaitingStop (sW .mwd 2 2 false), 0x0001#16), (sR .mrd 2 2 false, 0x0001#16),
      (s0, 0x0008#16), (withConfig s1 noSlave, 0x2003#16), (s0, 0x1201#16), (sSwd 0, 0x0012#16),
      (sW .mwa 2 0 false, 0x0001#16)].all (fun x =>
        decide (x.1.receptive ∧ x.1.deliverable (ev x.2) = true ∧ (ev x.2).timeout = false)) = true := by
  decide

/-- A pending command and a delivered snapshot for each of the five cases, and one that meets none. -/
theorem witness_PendingCommandDesyncsExactlyOnTheListedSnapshots :
    [(sM .mwd 0x15 false false, 0x0003#16), (sM .mwd 0x14 true false, 0x0001#16),
      (sM .mwd 0x14 true false, 0x0010#16), (sM .mwd 0x15 false false, 0x0011#16),
      (sM .mwd 0x15 false false, 0x0020#16), (sM .mwa 0x12 false false, 0x0015#16)].all (fun x =>
        decide (x.1.awaiting ∧ x.1.deliverable (ev x.2) = true ∧ (ev x.2).timeout = false)) = true ∧
    (sM .mwd 0x15 false false).awaiting ∧ (sM .mwd 0x15 false false).cmdstat.wstop = false := by decide

/-- The first byte from MWA, and the last one from MWD. -/
theorem witness_MasterWriteSendsTheNextByte :
    ((sW .mwa 1 0 false).Inv ∧ (sW .mwd 3 2 true).Inv) ∧
      (sW .mwa 1 0 false).inFlight ∧ (sW .mwd 3 2 true).inFlight ∧ (ev 0x0001).dataByte ∧
      (ev 0x0001).nak = false ∧ (sW .mwd 3 2 true).mwr.idx.toNat + 1 = (sW .mwd 3 2 true).mwr.cap.toNat :=
  ⟨⟨inv_of (by decide), inv_of (by decide)⟩, by decide⟩

theorem witness_MasterWriteFinishesAfterTheLastByte :
    (sW .mwd 2 2 false).inFlight ∧ (sW .mwd 2 2 true).inFlight ∧ (sW .mwa 0 0 false).inFlight ∧
      (ev 0x0005).dataByte ∧ (ev 0x0001).dataByte ∧ (ev 0x0001).nak = false ∧
      (sW .mwa 0 0 false).mwr.cap.toNat ≤ (sW .mwa 0 0 false).mwr.idx.toNat := by decide

theorem witness_MasterNaksAreRecorded :
    (sW .mwa 2 0 false).inFlight ∧ (sR .mra 2 0 false).inFlight ∧ (sW .mwa 2 0 true).inFlight ∧
      (sR .mra 2 0 true).inFlight ∧ (sW .mwd 2 1 false).inFlight ∧ (sW .mwd 2 1 true).inFlight ∧
      (ev 0x0005).dataByte ∧ (ev 0x0005).nak = true ∧
      (sW .mwd 2 1 true).mwr.idx.toNat < (sW .mwd 2 1 true).mwr.cap.toNat := by decide

/-- The address ACK with room and with none, in both modes; a byte with room left, and the last one. -/
theorem witness_MasterReadStoresAndArbitrates :
    ((sR .mra 2 0 false).Inv ∧ (sR .mra 0 0 false).Inv ∧ (sR .mra 0 0 true).Inv ∧
      (sR .mrd 2 0 false).Inv ∧ (sR .mrd 2 1 false).Inv ∧ (sR .mrd 2 1 true).Inv) ∧
    (sR .mra 2 0 false).inFlight ∧ (sR .mra 0 0 false).inFlight ∧ (sR .mra 0 0 true).inFlight ∧
      (sR .mrd 2 0 false).inFlight ∧ (sR .mrd 2 1 false).inFlight ∧ (sR .mrd 2 1 true).inFlight ∧
      (ev 0x5A01).dataByte ∧ (ev 0x5A01).nak = false ∧ (sR .mrd 2 1 true).raceAlts 0x201 = [] :=
  ⟨⟨inv_of (by decide), inv_of (by decide), inv_of (by decide), inv_of (by decide),
    inv_of (by decide), inv_of (by decide)⟩, by decide⟩

theorem witness_StopCompletesTheMasterTransfer :
    [awaitingStop (sW .mwa 2 0 false), awaitingStop (sW .mwd 2 2 false),
      awaitingStop (sR .mra 2 0 false), awaitingStop (sR .mrd 2 2 false)].all (fun s =>
        decide (s.receptive ∧ s.stopIe = true)) = true ∧
      (ev 0x0010).plain ∧ (ev 0x0010).bc = false ∧ (ev 0x0010).saddr = false ∧
      (ev 0x0010).stop = true := by decide

theorem witness_StopWithAByteComesAfterTheByte :
    (eventStepOn (ev 0x0001) .grant (sW .mwd 2 2 false) =
        .next { sW .mwd 2 2 false with actions := [.stop], stopIe := true } ∧
      (sW .mwd 2 2 false).inFlight ∧ (ev 0x0001).dataByte ∧ (sW .mwd 2 2 false).bus.isMaster = true ∧
      (sW .mwd 2 2 false).fatal = false ∧ (sW .mwd 2 2 false).desync = false) ∧
    (eventStepOn (ev 0x3301) .grant (sSwd 2) = .next { sSwd 2 with
        data := 0x33, sstat := { SStat.zero with wrBusy := true, wrOvfl := true }, actions := [.nak] } ∧
      (sSwd 2).receptive ∧ (ev 0x3301).dataByte ∧ (sSwd 2).bus = .swd) ∧
    (eventStepOn (ev 0x0001) .grant (sSrd 4) = .next { sSrd 4 with
        data := 0xFF, sstat := { SStat.zero with rdBusy := true, rdOvfl := true }
        actions := [.tx 0xFF] } ∧
      (sSrd 4).receptive ∧ (ev 0x0001).nak = false ∧ (sSrd 4).bus = .srd) ∧
    (eventStepOn (ev 0x0005) .grant (sSrd 4) = .next { sSrd 4 with
        sstat := { SStat.zero with rdCmplt := true }, bus := .idle } ∧
      (ev 0x0005).dataByte ∧ (ev 0x0005).nak = true) :=
  ⟨⟨rfl, by decide⟩, ⟨rfl, by decide⟩, ⟨rfl, by decide⟩, ⟨rfl, by decide⟩⟩

/-- Lost arbitration in each transfer state; a Start abort in each address state; with and without a slave
address. -/
theorem witness_LosingTheBusEndsTheTransfer :
    [sW .mwa 2 0 false, sW .mwd 2 1 false, sR .mra 2 0 false, sR .mrd 2 1 false,
      awaitingStop (sW .mwd 2 2 false)].all (fun s =>
        decide (s.receptive ∧ s.mstat.xferInp = true ∧ s.bus ≠ .mh ∧ s.bus.isMaster = true)) = true ∧
    ((ev 0x0008).timeout = false ∧ (ev 0x0008).lostArb = true ∧ (ev 0x0008).bc = false) ∧
    ((ev 0x0020).timeout = false ∧ (ev 0x0020).startAbort = true) ∧
    ((ev 0x200B).lostArb = true ∧ (ev 0x200B).bc = true ∧ (ev 0x200B).saddr = true ∧
      (sW .mwa 2 0 false).cfg.slaveEn = true) := by decide

/-- From Idle, SWD and SRD: a mismatch, a write, a read with an exhausted buffer, a read with bytes left. -/
theorem witness_SlaveAddressIsMatched :
    (s1.Inv ∧ (sSwd 1).Inv ∧ (sSrd 3).Inv) ∧
    [s1, sSwd 1, sSrd 4, sSrd 3].all (fun s =>
      decide (s.receptive ∧ s.bus.isMaster = false ∧ s.cfg.slaveEn = true)) = true ∧
    [0x4003#16, 0x2003#16, 0x2103#16, 0x2113#16].all (fun w =>
      decide ((ev w).plain ∧ (ev w).bc = true ∧ (ev w).saddr = true)) = true ∧
    (addrPart (ev 0x4003).rx ≠ s1.saddr) ∧
    (addrPart (ev 0x2003).rx = s1.saddr ∧ dirPart (ev 0x2003).rx = .write) ∧
    (addrPart (ev 0x2103).rx = s1.saddr ∧ dirPart (ev 0x2103).rx = .read) ∧
    (sSrd 4).srd.cap.toNat ≤ (sSrd 4).srd.idx.toNat ∧
    (sSrd 3).srd.idx.toNat < (sSrd 3).srd.cap.toNat :=
  ⟨⟨inv_of (by decide), inv_of (by decide), inv_of (by decide)⟩, by decide⟩

theorem witness_SlaveReadSendsBufferThenSentinel :
    ((sSrd 3).Inv ∧ (sSrd 4).Inv) ∧ (sSrd 3).receptive ∧ (sSrd 4).receptive ∧
      (sSrd 3).bus = .srd ∧ (sSrd 4).bus = .srd ∧ (ev 0x0001).dataByte ∧ (ev 0x0005).dataByte ∧
      (ev 0x0001).nak = false ∧ (ev 0x0005).nak = true ∧
      (sSrd 3).srd.idx.toNat < (sSrd 3).srd.cap.toNat ∧
      (sSrd 4).srd.cap.toNat ≤ (sSrd 4).srd.idx.toNat :=
  ⟨⟨inv_of (by decide), inv_of (by decide)⟩, by decide⟩

theorem witness_SlaveWriteStoresOrOverflows :
    ((sSwd 1).Inv ∧ (sSwd 2).Inv) ∧ (sSwd 1).receptive ∧ (sSwd 2).receptive ∧ (sSwd 1).bus = .swd ∧
      (sSwd 2).bus = .swd ∧ (ev 0x3301).dataByte ∧ (sSwd 1).raceAlts 0x401 = [] ∧
      (sSwd 1).swr.idx.toNat < (sSwd 1).swr.cap.toNat ∧
      (sSwd 2).swr.cap.toNat ≤ (sSwd 2).swr.idx.toNat ∧
      ((sSwd 2).stopIe = true ∧ (ev 0x0010).plain ∧ (ev 0x0010).bc = false ∧
        (ev 0x0010).saddr = false ∧ (ev 0x0010).stop = true) :=
  ⟨⟨inv_of (by decide), inv_of (by decide)⟩, by decide⟩

/-- A pending Start and Restart, ACKed and NAKed; and both kinds of Stop wait. -/
theorem witness_ManualAddressAndStopWaits :
    [sM .mwa 0x12 false false, sM .mra 0x13 false true].all (fun s =>
      decide (s.awaiting ∧ s.cmdstat.wstop = false ∧ (s.bus = .mwa ∨ s.bus = .mra) ∧
        (s.cmdstat.lastop = 0x12 ∨ s.cmdstat.lastop = 0x13))) = true ∧
    [sM .mwa 0x12 true false, sM .mh 0x14 true false].all (fun s =>
      decide (s.awaiting ∧ s.cmdstat.wstop = true)) = true ∧
    ((ev 0x0001).plain ∧ (ev 0x0001).saddr = false ∧ (ev 0x0001).bc = true ∧
      (ev 0x0001).stop = false ∧ (ev 0x0001).nak = false) ∧
    ((ev 0x0005).plain ∧ (ev 0x0005).bc = true ∧ (ev 0x0005).nak = true ∧ (ev 0x0005).stop = false) ∧
    ((ev 0x0015).plain ∧ (ev 0x0015).bc = true ∧ (ev 0x0015).nak = true ∧ (ev 0x0015).stop = true) ∧
    ((ev 0x0010).plain ∧ (ev 0x0010).saddr = false ∧ (ev 0x0010).bc = false ∧
      (ev 0x0010).stop = true) := by decide

theorem witness_ManualByteWaits :
    ((sM .mwd 0x15 false false).awaiting ∧ (sM .mwd 0x15 false false).cmdstat.wstop = false ∧
      (sM .mwd 0x15 false false).cmdstat.lastop = 0x15 ∧ (sM .mwd 0x15 false false).bus = .mwd) ∧
    ((sM .mrd 0x16 false true).awaiting ∧ (sM .mrd 0x16 false true).cmdstat.wstop = false ∧
      (sM .mrd 0x16 false true).cmdstat.lastop = 0x16 ∧ (sM .mrd 0x16 false true).bus = .mrd) ∧
    (ev 0x0005).dataByte ∧ (ev 0x1101).dataByte := by decide

theorem witness_ManualCommandLosesTheBus :
    ((sM .mwd 0x15 false false).awaiting ∧ (ev 0x0008).timeout = false ∧
      (ev 0x0008).lostArb = true ∧ (ev 0x0008).bc = false) ∧
    ((sM .mra 0x12 false true).awaiting ∧ (ev 0x0020).timeout = false ∧
      (ev 0x0020).startAbort = true ∧ (sM .mra 0x12 false true).bus = .mra ∧
      (sM .mra 0x12 false true).cmdstat.lastop = 0x12 ∧
      (sM .mra 0x12 false true).cmdstat.wstop = false) ∧
    ((ev 0x210B).lostArb = true ∧ (ev 0x210B).bc = true ∧ (ev 0x210B).saddr = true ∧
      (sM .mra 0x12 false true).cfg.slaveEn = true) := by decide

/-- An event step that answers a state unlike the one before it. -/
theorem witness_EventEngineFrame :
    eventStep 0x0001 .grant (sR .mra 2 0 false) =
      .next { sR .mra 2 0 false with bus := .mrd, actions := [.rx] } := rfl

theorem witness_ManualCommandsNeverWriteMstat :
    exec .masterSendStop (withBus s0 .mh) = .next { s0 with
      bus := .mh, actions := [.stop]
      cmdstat := { s0.cmdstat with busy := true, wstop := true } } ∧
    (sM .mh 0x14 true false).Inv ∧ (sM .mh 0x14 true false).cmdstat.busy = true ∧
    eventStep 0x0010 .grant (sM .mh 0x14 true false) = .next { s0 with
      cmdstat := ⟨false, false, false, .noError, 0x14⟩ } :=
  ⟨rfl, inv_of (by decide), rfl, rfl⟩

theorem witness_CommandsNeverAccessMemory :
    exec .slaveStatus (sSrd 2) = .next { sSrd 2 with rdata := 0x02 } := rfl

theorem witness_OnlyResetLeavesFatal :
    let s := given (halted s0) [⟨false, .csrWrite 0x0C .bits32 7⟩]
    s.fatal = true ∧ s.nextIsReset = false ∧ step s = .next (halted s0) :=
  ⟨rfl, rfl, rfl⟩

theorem witness_StickyBitsClearedOnlyByTheirCommands :
    let s := given { sSwd 2 with
      mstat := ⟨true, true, false, true, true, true, true, true⟩
      sstat := ⟨true, false, true, true, true, true⟩
      cmdstat := { s0.cmdstat with ovr := true } } [⟨false, .csrWrite 0 .bits32 0x17000000⟩]
    s.nextIsReset = false ∧ s.nextCommand = some .masterStatus ∧
      step s = .next { given s [] with
        rdata := 0xFB, cmdstat := { s.cmdstat with lastop := 0x17 } } :=
  ⟨rfl, by decide, rfl⟩

theorem witness_OperandAndAddressRegistersHaveOneWriter :
    let s := given s1 [⟨false, .csrWrite 0x2C .bits32 0x42⟩]
    s.nextIsReset = false ∧ s.nextCsrWrite = some 0x2C ∧ s.nextCommand = none ∧
      step s = .next { s1 with clkdiv := 0x42 } :=
  ⟨rfl, by decide, by decide, rfl⟩

theorem witness_BusBusyIsReadByThreeCommandsOnly :
    (Instr.masterStatus ≠ .masterWriteBuf 0 ⟨false, false⟩) ∧
      exec .masterStatus s0 = .next { s0 with rdata := 0 } ∧
      eventStep 0x0001 .grant (sR .mra 2 0 false) =
        .next { sR .mra 2 0 false with bus := .mrd, actions := [.rx] } :=
  ⟨by decide, rfl, rfl⟩

theorem witness_ClkdivIsNeverRead :
    exec .masterClearReadBuf (sR .mrd 2 1 false) =
      .next { sR .mrd 2 1 false with mrd := ⟨0x200, 2, 0⟩ } ∧
    eventStep 0x0001 .grant (sR .mra 2 0 false) =
        .next { sR .mra 2 0 false with bus := .mrd, actions := [.rx] } := ⟨rfl, rfl⟩

theorem witness_HistoriesOnlyGrow :
    let s := given (sR .mra 2 0 false) [⟨false, .snapshot 0x0001 .grant⟩]
    s.nextIsReset = false ∧
      step s = .next { sR .mra 2 0 false with bus := .mrd, actions := [.rx] } := ⟨rfl, rfl⟩

/-- Host accesses to a byte of no owned buffer, to the next byte a write in flight will send, to one it has
raced for already, and to the last byte a read in flight will store; an engine store where the host stored
before; and the first address outside a space of 16 bits. -/
theorem witness_RacingReadIsTheOldOrTheNewByte :
    (s1.raceAlts 0x300 = [] ∧ Memory.wf s1.mem = true ∧ (0x300#32).toNat < 2 ^ s1.cfg.aw ∧
      s1.owns (0x300#32).toNat = false ∧ s1.mayWrite (0x300#32).toNat = false) ∧
    (let s := { sW .mwd 3 1 false with races := [(0x101, 0x77)] }
     Memory.wf s.mem = true ∧ (0x101#32).toNat < 2 ^ s.cfg.aw ∧ s.owns (0x101#32).toNat = true ∧
       s.mayWrite (0x101#32).toNat = false ∧ s.raceAlts 0x101 = [0x77]) ∧
    (let s := sR .mrd 2 1 false
     Memory.wf s.mem = true ∧ (0x201#32).toNat < 2 ^ s.cfg.aw ∧
       s.mayWrite (0x201#32).toNat = true) ∧
    (let s := { sR .mrd 2 1 false with races := [(0x201, 0x77)] }
     Memory.wf s.mem = true ∧ s.portStop .grant 0x201 = none ∧ s.raceAlts 0x201 ≠ []) ∧
    (let c : Config := { Config.standard with aw := 16 }
     2 ^ c.aw ≤ (0x10000#32).toNat) := by decide

theorem witness_HardwareDecodeAlwaysMatches :
    let s := withConfig s1 hwDecode
    s.receptive ∧ s.bus.isMaster = false ∧ s.cfg.slaveEn = true ∧ s.cfg.hwAddrDecode = true ∧
      phyKeepsSide s 0x2003 = true ∧ (snapOf s.cfg 0x2003).plain ∧
      (snapOf s.cfg 0x2003).bc = true ∧ (snapOf s.cfg 0x2003).saddr = true ∧
      eventStep 0x2003 .grant s = .next { s with
        data := 0x20, sstat := { SStat.zero with wrBusy := true }, stopIe := true, bus := .swd
        actions := [.ack] } :=
  ⟨by decide, rfl, rfl, rfl, by decide, by decide, rfl, rfl, rfl⟩

theorem witness_ResetStateHasTheInvariants :
    Memory.wf State.reset.mem = true ∧ Memory.wf s1.mem = true := by decide

theorem witness_EveryStepKeepsTheInvariants :
    (given (sR .mra 2 0 false) [⟨false, .snapshot 0x0001 .grant⟩]).Inv ∧
      step (given (sR .mra 2 0 false) [⟨false, .snapshot 0x0001 .grant⟩]) =
        .next { sR .mra 2 0 false with bus := .mrd, actions := [.rx] } :=
  ⟨inv_of (by decide), rfl⟩

/-- A step that accesses memory. -/
theorem witness_EventStepsStopOnlyOnARefusedAccess :
    (sW .mwa 2 0 false).Inv ∧
      after (eventStep 0x0001 .grant (sW .mwa 2 0 false)) (fun t =>
        t.memHist != (sW .mwa 2 0 false).memHist) = true :=
  ⟨inv_of (by decide), by decide⟩

/-- A write armed for two bytes, and one armed for none. -/
theorem witness_BufferedWriteRunsToCompletion :
    let s := given (sW .mwa 2 0 false) (List.replicate 3 ⟨false, .snapshot 0x0001#16 .grant⟩ ++
      [⟨false, .snapshot 0x0010#16 .grant⟩])
    let z := given (sW .mwa 0 0 false) [⟨false, .snapshot 0x0001#16 .grant⟩,
      ⟨false, .snapshot 0x0010#16 .grant⟩]
    (s.Inv ∧ z.Inv) ∧ s.inFlight ∧ s.bus = .mwa ∧ s.mwr.idx = 0 ∧ s.mwr.cap.toNat = 2 ∧
      s.mmode.mode.noStop = false ∧ s.races = [] ∧ z.inFlight ∧ z.mwr.cap.toNat = 0 ∧
      z.races = [] :=
  ⟨⟨inv_of (by decide), inv_of (by decide)⟩, by decide⟩

end Sys2Proof.Tests
end

section
/-! The step's dispatch on the input list (00_scope R5, R6; 10_state R46): one equation per form of the
list. -/

namespace Sys2Proof.Machine

/-- With no input nothing advances (log 3). -/
theorem step_of_inputs_nil {s : State} (h : s.inputs = []) : step s = .next s := by
  simp [step, nextStep, h]

/-- The next input is taken and its agent steps. -/
theorem step_of_inputs_cons {s : State} {x : Input} {rest : List Input} (h : s.inputs = x :: rest) :
    step s = settle (agentStep x.act (s.takeInput x rest)) := by
  simp [step, nextStep, h]

/-- Settles O7: `step` on a nonempty list is `agentStep` of its head, whose arms are the agents'
operations; on the empty list it is the identity. -/
theorem stepLetsTheNextAgentMove : Obligations.StepLetsTheNextAgentMove := by
  unfold Obligations.StepLetsTheNextAgentMove
  intro s level rest
  refine ⟨?snapshot, ?memStore, ?memLoad, ?csrWrite, ?csrRead, step_of_inputs_nil⟩
  case snapshot => exact fun _ _ h => step_of_inputs_cons h
  case memStore => exact fun _ _ h => step_of_inputs_cons h
  case memLoad => exact fun _ h => step_of_inputs_cons h
  case csrWrite => exact fun _ _ _ h => step_of_inputs_cons h
  case csrRead => exact fun _ _ h => step_of_inputs_cons h

end Sys2Proof.Machine
end

section
/-! What the commands can do (41 to 44), said once: an accepted command either finishes with a code and
changes nothing else, or has the one effect of its family. -/

namespace Sys2Proof.Machine

/-- What arming writes, with the address action named (41 R160). -/
def State.armedWith (s : State) (d : Dir) (a7 : Addr7) (m : TransferMode) (act : Action) : State :=
  { s.setBuf (masterBuf d) ⟨s.ptr, s.cnt, 0⟩ with
    mmode := ⟨m, d, a7⟩
    mstat := s.mstat.arm
    data := addrByte a7 d
    actions := s.actions ++ [act]
    bus := addressState d }

theorem armed_eq_armedWith (s : State) (d : Dir) (a7 : Addr7) (m : TransferMode) :
    s.armed d a7 m = s.armedWith d a7 m
      (if s.bus = .idle then .start (addrByte a7 d) else .restart (addrByte a7 d)) := by
  unfold State.armed
  cases d <;> split <;> rfl

/-- `CommandEffect s i t`: `t` is a state the command `i` can leave behind when executed in `s`, with
the checks that let its effect through. It is an upper bound: a refusal has any code, and the word an
accessor returns and the buffer it works on are left open. -/
inductive CommandEffect (s : State) : Instr → State → Prop
  /-- a refused command changes CODE alone -/
  | refused (i : Instr) (c : ResultCode) : CommandEffect s i (s.finish c)
  | init (disabled : s.en = false) : CommandEffect s .init (s.initEffects.finish .noError)
  | enable : CommandEffect s .enable ({ s with en := true }.finish .noError)
  | startEnabling : CommandEffect s .start ({ s with en := true }.finish .noError)
  | startInitialising (disabled : s.en = false) :
      CommandEffect s .start ({ s.initEffects with en := true }.finish .noError)
  | stop (l : List Action) :
      CommandEffect s .stop ({ s with
        actions := s.actions ++ l
        mstat := s.mstat.abandon
        sstat := s.sstat.dropBusy
        stopIe := false
        desync := false
        bus := .idle
        en := false }.finish .noError)
  | writeBuf (a7 : Addr7) (m : TransferMode) (act : Action) (passed : bufArmRefusal m s = none) :
      CommandEffect s (.masterWriteBuf a7 m) ((s.armedWith .write a7 m act).finish .noError)
  | readBuf (a7 : Addr7) (m : TransferMode) (act : Action) (passed : bufArmRefusal m s = none) :
      CommandEffect s (.masterReadBuf a7 m) ((s.armedWith .read a7 m act).finish .noError)
  | sendStart (a7 : Addr7) (rw : Dir) (ready : s.manualReady = true) (state : s.bus = .idle) :
      CommandEffect s (.masterSendStart a7 rw)
        (s.manualAddress rw (addrByte a7 rw) (.start (addrByte a7 rw)))
  | sendRestart (a7 : Addr7) (rw : Dir) (ready : s.manualReady = true)
      (holds : s.bus.holdsBus = true) :
      CommandEffect s (.masterSendRestart a7 rw)
        (s.manualAddress rw (addrByte a7 rw) (.restart (addrByte a7 rw)))
  | sendStop (ready : s.manualReady = true) (holds : s.bus.holdsBus = true) :
      CommandEffect s .masterSendStop ((s.emit .stop).goPending false true)
  | writeByte (d : Byte) (ready : s.manualReady = true) (state : s.bus = .mwd) :
      CommandEffect s (.masterWriteByte d)
        (({ s with data := d }.emit (.tx d)).goPending false false)
  | readByte (k : Bool) (ready : s.manualReady = true) (state : s.bus = .mrd) :
      CommandEffect s (.masterReadByte k) ((s.emit .rx).goPending k false)
  /-- the status and size commands write RDATA -/
  | returned (i : Instr) (w : Word) : CommandEffect s i ({ s with rdata := w }.finish .noError)
  | clearStatus (w : Word) :
      CommandEffect s .masterClearStatus
        ({ s with rdata := w, mstat := s.mstat.clearSticky }.finish .noError)
  | clearReadStatus (w : Word) :
      CommandEffect s .slaveClearReadStatus
        ({ s with rdata := w, sstat := s.sstat.clearRead }.finish .noError)
  | clearWriteStatus (w : Word) :
      CommandEffect s .slaveClearWriteStatus
        ({ s with rdata := w, sstat := s.sstat.clearWrite }.finish .noError)
  | clearIdx (i : Instr) (b : BufId) : CommandEffect s i (s.clearIdx b)
  | setAddress (a7 : Addr7) :
      CommandEffect s (.slaveSetAddress a7) ({ s with saddr := a7 }.finish .noError)
  | install (i : Instr) (b : BufId) (fits : s.ptr.toNat + s.cnt.toNat ≤ 2 ^ s.cfg.aw) :
      CommandEffect s i ((s.setBuf b ⟨s.ptr, s.cnt, 0⟩).finish .noError)

section
variable {s t : State}

theorem execInit_effect (h : execInit s = .next t) : CommandEffect s .init t := by
  unfold execInit at h
  split at h <;> cases h
  · exact .refused ..
  · exact .init (by simp_all)

theorem execStart_effect (h : execStart s = .next t) : CommandEffect s .start t := by
  unfold execStart at h
  cases h
  split
  · exact .startInitialising (by simp_all)
  · exact .startEnabling

theorem execStop_effect (h : execStop s = .next t) : CommandEffect s .stop t := by
  unfold execStop at h
  cases h
  split
  · exact .stop [.release]
  · simpa using CommandEffect.stop (s := s) []

theorem bufArm_write_effect (a7 : Addr7) (m : TransferMode) :
    CommandEffect s (.masterWriteBuf a7 m) (bufArm .write a7 m s) := by
  unfold bufArm
  split
  · exact .refused ..
  · rw [armed_eq_armedWith]
    exact .writeBuf a7 m _ ‹_›

theorem bufArm_read_effect (a7 : Addr7) (m : TransferMode) :
    CommandEffect s (.masterReadBuf a7 m) (bufArm .read a7 m s) := by
  unfold bufArm
  split
  · exact .refused ..
  · rw [armed_eq_armedWith]
    exact .readBuf a7 m _ ‹_›

theorem execMasterSendStart_effect {a7 : Addr7} {rw : Dir}
    (h : execMasterSendStart a7 rw s = .next t) : CommandEffect s (.masterSendStart a7 rw) t := by
  unfold execMasterSendStart at h
  split at h
  · cases h; exact .refused ..
  · split at h
    · cases h; exact .refused ..
    · split at h <;> cases h
      · exact .refused ..
      · exact .sendStart a7 rw (by simp_all) (by simp_all)

theorem execMasterSendRestart_effect {a7 : Addr7} {rw : Dir}
    (h : execMasterSendRestart a7 rw s = .next t) :
    CommandEffect s (.masterSendRestart a7 rw) t := by
  unfold execMasterSendRestart at h
  split at h
  · cases h; exact .refused ..
  · split at h <;> cases h
    · exact .refused ..
    · exact .sendRestart a7 rw (by simp_all) (by simp_all)

theorem execMasterSendStop_effect (h : execMasterSendStop s = .next t) :
    CommandEffect s .masterSendStop t := by
  unfold execMasterSendStop at h
  split at h
  · cases h; exact .refused ..
  · split at h <;> cases h
    · exact .refused ..
    · exact .sendStop (by simp_all) (by simp_all)

theorem execMasterWriteByte_effect {d : Byte} (h : execMasterWriteByte d s = .next t) :
    CommandEffect s (.masterWriteByte d) t := by
  unfold execMasterWriteByte at h
  split at h
  · cases h; exact .refused ..
  · split at h <;> cases h
    · exact .refused ..
    · exact .writeByte d (by simp_all) (by simp_all)

theorem execMasterReadByte_effect {k : Bool} (h : execMasterReadByte k s = .next t) :
    CommandEffect s (.masterReadByte k) t := by
  unfold execMasterReadByte at h
  split at h
  · cases h; exact .refused ..
  · split at h <;> cases h
    · exact .refused ..
    · exact .readByte k (by simp_all) (by simp_all)

theorem install_effect (i : Instr) (b : BufId) : CommandEffect s i (s.install b) := by
  unfold State.install
  split
  · exact .refused ..
  · exact .install i b ((bufferFits_iff ..).mp (by simp_all))

/-- Whatever state a command answers is one of its effects. -/
theorem exec_effect {i : Instr} (h : exec i s = .next t) : CommandEffect s i t := by
  cases i
  case init => exact execInit_effect h
  case enable => cases h; exact .enable
  case start => exact execStart_effect h
  case stop => exact execStop_effect h
  case masterWriteBuf => cases h; exact bufArm_write_effect ..
  case masterReadBuf => cases h; exact bufArm_read_effect ..
  case masterSendStart => exact execMasterSendStart_effect h
  case masterSendRestart => exact execMasterSendRestart_effect h
  case masterSendStop => exact execMasterSendStop_effect h
  case masterWriteByte => exact execMasterWriteByte_effect h
  case masterReadByte => exact execMasterReadByte_effect h
  case masterClearStatus => cases h; exact .clearStatus _
  case slaveClearReadStatus => cases h; exact .clearReadStatus _
  case slaveClearWriteStatus => cases h; exact .clearWriteStatus _
  case slaveSetAddress => cases h; exact .setAddress _
  case slaveInitReadBuf => cases h; exact install_effect ..
  case slaveInitWriteBuf => cases h; exact install_effect ..
  case masterClearReadBuf => cases h; exact .clearIdx _ .mrd
  case masterClearWriteBuf => cases h; exact .clearIdx _ .mwr
  case slaveClearReadBuf => cases h; exact .clearIdx _ .srd
  case slaveClearWriteBuf => cases h; exact .clearIdx _ .swr
  case masterStatus => cases h; exact .returned ..
  case slaveStatus => cases h; exact .returned ..
  case masterGetReadBufSize => cases h; exact .returned ..
  case masterGetWriteBufSize => cases h; exact .returned ..
  case slaveGetReadBufSize => cases h; exact .returned ..
  case slaveGetWriteBufSize => cases h; exact .returned ..

end

end Sys2Proof.Machine
end

section
/-! What handling a snapshot leaves as it was, and what it only adds to (40 R142, 10_state R48, 60 R272):
one relation between the state before and after, reflexive and transitive, met by each operation of the
event engine. -/

namespace Sys2Proof.Machine

/-! ### Sticky bits -/

/-- Every sticky bit of `m` is set in `n` (60 R272); XFER_INP is the live bit. -/
def MStat.StickyLe (m n : MStat) : Prop :=
  (m.rdCmplt = true → n.rdCmplt = true) ∧ (m.wrCmplt = true → n.wrCmplt = true) ∧
  (m.xferHalt = true → n.xferHalt = true) ∧ (m.errShortXfer = true → n.errShortXfer = true) ∧
  (m.errAddrNak = true → n.errAddrNak = true) ∧ (m.errArbLost = true → n.errArbLost = true) ∧
  (m.errXfer = true → n.errXfer = true)

/-- Every sticky bit of the read channel in `m` is set in `n`. -/
def SStat.ReadStickyLe (m n : SStat) : Prop :=
  (m.rdCmplt = true → n.rdCmplt = true) ∧ (m.rdOvfl = true → n.rdOvfl = true)

/-- Every sticky bit of the write channel in `m` is set in `n`. -/
def SStat.WriteStickyLe (m n : SStat) : Prop :=
  (m.wrCmplt = true → n.wrCmplt = true) ∧ (m.wrOvfl = true → n.wrOvfl = true)

/-- Every sticky bit of `m` is set in `n`. -/
def SStat.StickyLe (m n : SStat) : Prop := m.ReadStickyLe n ∧ m.WriteStickyLe n

section
variable (m : MStat) (n : SStat)

theorem MStat.StickyLe.refl : m.StickyLe m := by simp [MStat.StickyLe]
theorem SStat.StickyLe.refl : n.StickyLe n := by
  simp [SStat.StickyLe, SStat.ReadStickyLe, SStat.WriteStickyLe]

theorem MStat.StickyLe.trans {a b c : MStat} (h : a.StickyLe b) (k : b.StickyLe c) :
    a.StickyLe c := by
  obtain ⟨h1, h2, h3, h4, h5, h6, h7⟩ := h
  obtain ⟨k1, k2, k3, k4, k5, k6, k7⟩ := k
  exact ⟨k1 ∘ h1, k2 ∘ h2, k3 ∘ h3, k4 ∘ h4, k5 ∘ h5, k6 ∘ h6, k7 ∘ h7⟩

theorem SStat.StickyLe.trans {a b c : SStat} (h : a.StickyLe b) (k : b.StickyLe c) :
    a.StickyLe c := by
  obtain ⟨⟨h1, h2⟩, h3, h4⟩ := h
  obtain ⟨⟨k1, k2⟩, k3, k4⟩ := k
  exact ⟨⟨k1 ∘ h1, k2 ∘ h2⟩, k3 ∘ h3, k4 ∘ h4⟩

theorem stickyLe_finishStop (d : Dir) : m.StickyLe (m.finishStop d) := by
  cases d <;> simp [MStat.StickyLe, MStat.finishStop, MStat.complete]
theorem stickyLe_finishHalt (d : Dir) : m.StickyLe (m.finishHalt d) := by
  cases d <;> simp [MStat.StickyLe, MStat.finishHalt, MStat.complete]
theorem stickyLe_loseBus (lost : Bool) : m.StickyLe (m.loseBus lost) := by
  simp +contextual [MStat.StickyLe, MStat.loseBus]
theorem stickyLe_nakAddr : m.StickyLe m.nakAddr := by simp [MStat.StickyLe, MStat.nakAddr]
theorem stickyLe_shorten : m.StickyLe m.shorten := by simp [MStat.StickyLe, MStat.shorten]
theorem stickyLe_abandon : m.StickyLe m.abandon := by
  simp +contextual [MStat.StickyLe, MStat.abandon]

theorem stickyLe_dropBusy : n.StickyLe n.dropBusy := .refl n
theorem stickyLe_endRead : n.StickyLe n.endRead := by
  simp [SStat.StickyLe, SStat.ReadStickyLe, SStat.WriteStickyLe, SStat.endRead]
theorem stickyLe_endWrite : n.StickyLe n.endWrite := by
  simp [SStat.StickyLe, SStat.ReadStickyLe, SStat.WriteStickyLe, SStat.endWrite]
theorem stickyLe_rdBusy (b : Bool) : n.StickyLe { n with rdBusy := b } := .refl n
theorem stickyLe_wrBusy (b : Bool) : n.StickyLe { n with wrBusy := b } := .refl n
theorem stickyLe_rdOvfl : n.StickyLe { n with rdOvfl := true } := by
  simp [SStat.StickyLe, SStat.ReadStickyLe, SStat.WriteStickyLe]
theorem stickyLe_wrOvfl : n.StickyLe { n with wrOvfl := true } := by
  simp [SStat.StickyLe, SStat.ReadStickyLe, SStat.WriteStickyLe]

end

/-! ### The relation -/

/-- What the handling of a snapshot keeps: the elements of 40 R142, the mode of the faults, the bounds
of the descriptors and the canonical form of memory; sticky bits stay set and the histories are extended. -/
structure EngineKeeps (s t : State) : Prop where
  cfg : t.cfg = s.cfg := by rfl
  en : t.en = s.en := by rfl
  inited : t.inited = s.inited := by rfl
  fatal : t.fatal = s.fatal := by rfl
  desync : t.desync = true → s.desync = true := by exact id
  saddr : t.saddr = s.saddr := by rfl
  mmode : t.mmode = s.mmode := by rfl
  clkdiv : t.clkdiv = s.clkdiv := by rfl
  ptr : t.ptr = s.ptr := by rfl
  cnt : t.cnt = s.cnt := by rfl
  marg : t.marg = s.marg := by rfl
  ovr : t.cmdstat.ovr = s.cmdstat.ovr := by rfl
  lastop : t.cmdstat.lastop = s.cmdstat.lastop := by rfl
  bufPtr : ∀ b, (t.buf b).ptr = (s.buf b).ptr := by exact fun _ => rfl
  bufCap : ∀ b, (t.buf b).cap = (s.buf b).cap := by exact fun _ => rfl
  idxLeCap : ∀ b, (s.buf b).idx.toNat ≤ (s.buf b).cap.toNat →
    (t.buf b).idx.toNat ≤ (t.buf b).cap.toNat := by exact fun _ => id
  memCanonical : Memory.wf s.mem = true → Memory.wf t.mem = true := by exact id
  mstat : s.mstat.StickyLe t.mstat := by exact .refl _
  sstat : s.sstat.StickyLe t.sstat := by exact .refl _
  actions : s.actions <+: t.actions := by exact List.prefix_rfl
  memHist : s.memHist <+: t.memHist := by exact List.prefix_rfl

namespace EngineKeeps

theorem refl (s : State) : EngineKeeps s s where

theorem trans {s t u : State} (h : EngineKeeps s t) (k : EngineKeeps t u) : EngineKeeps s u where
  cfg := k.cfg.trans h.cfg
  en := k.en.trans h.en
  inited := k.inited.trans h.inited
  fatal := k.fatal.trans h.fatal
  desync := h.desync ∘ k.desync
  saddr := k.saddr.trans h.saddr
  mmode := k.mmode.trans h.mmode
  clkdiv := k.clkdiv.trans h.clkdiv
  ptr := k.ptr.trans h.ptr
  cnt := k.cnt.trans h.cnt
  marg := k.marg.trans h.marg
  ovr := k.ovr.trans h.ovr
  lastop := k.lastop.trans h.lastop
  bufPtr := fun b => (k.bufPtr b).trans (h.bufPtr b)
  bufCap := fun b => (k.bufCap b).trans (h.bufCap b)
  idxLeCap := fun b => k.idxLeCap b ∘ h.idxLeCap b
  memCanonical := k.memCanonical ∘ h.memCanonical
  mstat := h.mstat.trans k.mstat
  sstat := h.sstat.trans k.sstat
  actions := h.actions.trans k.actions
  memHist := h.memHist.trans k.memHist

section
variable (s : State)

/-! The shared operations -/

theorem emit (a : Action) : EngineKeeps s (s.emit a) where
  actions := List.prefix_append ..

theorem complete (c : ResultCode) : EngineKeeps s (s.complete c) where

theorem bumpIdx {b : BufId} (h : (s.buf b).more = true) : EngineKeeps s (s.bumpIdx b) where
  cfg := bumpIdx_cfg s b
  en := bumpIdx_en s b
  inited := bumpIdx_inited s b
  fatal := bumpIdx_fatal s b
  desync := by simp
  saddr := bumpIdx_saddr s b
  mmode := bumpIdx_mmode s b
  clkdiv := bumpIdx_clkdiv s b
  ptr := bumpIdx_ptr s b
  cnt := bumpIdx_cnt s b
  marg := bumpIdx_marg s b
  ovr := by simp
  lastop := by simp
  bufPtr := fun x => by rw [buf_bumpIdx]; split <;> simp_all
  bufCap := fun x => by rw [buf_bumpIdx]; split <;> simp_all
  idxLeCap := fun x hx => by
    have hmore := (more_iff _).mp h
    have hinc := incIdx_toNat_le s.cfg (s.buf b).idx
    rw [buf_bumpIdx]
    split
    · exact Nat.le_trans hinc hmore
    · exact hx
  memCanonical := by simp
  mstat := by simpa using MStat.StickyLe.refl _
  sstat := by simpa using SStat.StickyLe.refl _
  actions := by simp
  memHist := by simp

theorem data (b : Byte) : EngineKeeps s { s with data := b } where

theorem bus (b : BusState) : EngineKeeps s { s with bus := b } where

theorem memRead {r : PortReply} {a : Nat} {b : Byte} {t : State} (h : s.memRead r a = .ok (b, t)) :
    EngineKeeps s t := by
  rcases memRead_cases s r a with ⟨-, -, hok⟩ | ⟨e, -, -, he⟩
  · rw [hok] at h
    cases h
    exact { memHist := List.prefix_append .. }
  · rw [he] at h
    cases h

theorem memWrite {r : PortReply} {a : Nat} {v : Byte} {t : State} (h : s.memWrite r a v = .ok t) :
    EngineKeeps s t := by
  rcases memWrite_cases s r a v with ⟨-, -, hok⟩ | ⟨e, -, -, he⟩
  · rw [hok] at h
    cases h
    exact { memHist := List.prefix_append .., memCanonical := fun hm => write_wf hm a _ }
  · rw [he] at h
    cases h

/-! Recovery and the slave role -/

theorem timeoutRecover : EngineKeeps s s.timeoutRecover := by
  have h : EngineKeeps s ({ s with
      mstat := s.mstat.abandon
      sstat := s.sstat.dropBusy
      stopIe := false
      desync := false
      bus := .idle }.emit .release) :=
    { desync := nofun
      mstat := stickyLe_abandon _
      sstat := stickyLe_dropBusy _
      actions := List.prefix_append .. }
  unfold State.timeoutRecover
  split
  · exact h.trans {}
  · exact h

theorem slaveWriteComplete : EngineKeeps s s.slaveWriteComplete where
  sstat := stickyLe_endWrite _

theorem slaveReadComplete : EngineKeeps s s.slaveReadComplete where
  sstat := stickyLe_endRead _

theorem closeChannel : EngineKeeps s s.closeChannel := by
  unfold State.closeChannel
  split
  · exact slaveWriteComplete s
  · exact slaveReadComplete s
  all_goals exact .refl s

theorem slaveTransmit (b : Byte) : EngineKeeps s (s.slaveTransmit b) :=
  (data s b).trans (emit _ _)

theorem slaveWriteStart : EngineKeeps s s.slaveWriteStart where
  sstat := stickyLe_wrBusy ..
  actions := List.prefix_append ..

theorem addrMismatch : EngineKeeps s s.addrMismatch where
  actions := List.prefix_append ..

variable {s} {t : State} {r : PortReply}

/-- What the port hands out still has room at the index it was asked with. -/
theorem more_of_memRead {a : Nat} {b : Byte} {x : BufId} (h : s.memRead r a = .ok (b, t))
    (hm : (s.buf x).more = true) : (t.buf x).more = true := by
  rcases memRead_cases s r a with ⟨-, -, hok⟩ | ⟨e, -, -, he⟩
  · rw [hok] at h
    cases h
    exact hm
  · rw [he] at h
    cases h

theorem more_of_memWrite {a : Nat} {v : Byte} {x : BufId} (h : s.memWrite r a v = .ok t)
    (hm : (s.buf x).more = true) : (t.buf x).more = true := by
  rcases memWrite_cases s r a v with ⟨-, -, hok⟩ | ⟨e, -, -, he⟩
  · rw [hok] at h
    cases h
    exact hm
  · rw [he] at h
    cases h

theorem slaveLoad (h : slaveLoad r s = .ok t) : EngineKeeps s t := by
  unfold Machine.slaveLoad at h
  split at h
  case isTrue hmore =>
    split at h <;> cases h
    case h_2 b u hread =>
      have hu : (u.buf .srd).more = true := more_of_memRead hread hmore
      exact ((memRead s hread).trans (bumpIdx u hu)).trans (slaveTransmit _ b)
  case isFalse =>
    cases h
    exact .trans (t := { s with sstat := { s.sstat with rdOvfl := true } })
      { sstat := stickyLe_rdOvfl _ } (slaveTransmit _ _)

theorem slaveReadStart (h : slaveReadStart r s = .ok t) : EngineKeeps s t := by
  unfold Machine.slaveReadStart at h
  refine .trans ?_ (slaveLoad h)
  exact { sstat := stickyLe_rdBusy .., actions := List.prefix_append .. }

theorem addressMatch {a : Byte} (h : addressMatch r a s = .ok t) : EngineKeeps s t := by
  unfold Machine.addressMatch at h
  refine (data s a).trans ?_
  split at h
  · split at h
    · exact slaveReadStart h
    · cases h
      exact slaveWriteStart _
  · cases h
    exact addrMismatch _

theorem slaveWriteByte {b : Byte} (h : slaveWriteByte r b s = .ok t) : EngineKeeps s t := by
  unfold Machine.slaveWriteByte at h
  dsimp only at h
  refine (data s b).trans ?_
  split at h
  case isTrue hmore =>
    split at h <;> cases h
    case h_2 u hwrite =>
      have hu : (u.buf .swr).more = true := more_of_memWrite hwrite hmore
      exact ((memWrite _ hwrite).trans (bumpIdx u hu)).trans (emit _ _)
  case isFalse =>
    cases h
    exact { sstat := stickyLe_wrOvfl _, actions := List.prefix_append .. }

theorem slaveData {e : Snap} (h : slaveData e r s = .ok t) : EngineKeeps s t := by
  unfold Machine.slaveData at h
  split at h
  · split at h
    · cases h
      exact slaveReadComplete s
    · exact slaveLoad h
  · exact slaveWriteByte h
  all_goals cases h

/-- The Stop of a snapshot, processed or not. -/
theorem closeChannel_if (b : Bool) : EngineKeeps s (if b then s.closeChannel else s) := by
  split
  · exact closeChannel s
  · exact .refl s

theorem slaveEvent {e : Snap} (h : slaveEvent e r s = .ok t) : EngineKeeps s t := by
  unfold Machine.slaveEvent at h
  split at h
  · cases h
  · split at h
    · split at h
      · cases h
      · exact ((closeChannel_if e.stop).trans (closeChannel _)).trans (addressMatch h)
    · split at h
      · split at h <;> cases h
        case h_2 u hdata => exact (slaveData hdata).trans (closeChannel_if e.stop)
      · split at h
        · cases h
        · split at h <;> cases h
          · exact closeChannel s
          · exact .refl s

/-! The master role -/

variable (s)

theorem haltComplete (d : Dir) : EngineKeeps s (s.haltComplete d) where
  mstat := stickyLe_finishHalt _ d

theorem finishXfer (d : Dir) : EngineKeeps s (s.finishXfer d) := by
  unfold State.finishXfer
  split
  · exact haltComplete s d
  · exact { actions := List.prefix_append .. }

theorem addrAckRead : EngineKeeps s s.addrAckRead := by
  unfold State.addrAckRead
  refine (bus s .mrd).trans ?_
  split
  · exact emit _ _
  · exact finishXfer _ _

theorem addrNak (d : Dir) : EngineKeeps s (s.addrNak d) :=
  .trans { mstat := stickyLe_nakAddr _ } (finishXfer _ d)

theorem writeNak : EngineKeeps s s.writeNak := by
  unfold State.writeNak
  split
  · exact .trans (t := { s with mstat := s.mstat.shorten })
      { mstat := stickyLe_shorten _ } (finishXfer _ _)
  · exact finishXfer s _

theorem readArbitrate : EngineKeeps s s.readArbitrate := by
  unfold State.readArbitrate
  split
  · exact (emit s _).trans (emit _ _)
  · exact (emit s _).trans (finishXfer _ _)

theorem masterStop : EngineKeeps s s.masterStop where
  mstat := stickyLe_finishStop _ _

variable {s}

theorem sendNext (h : sendNext r s = .ok t) : EngineKeeps s t := by
  unfold Machine.sendNext at h
  split at h
  case isTrue hmore =>
    split at h <;> cases h
    case h_2 b u hread =>
      have hu : (u.buf .mwr).more = true := more_of_memRead hread hmore
      exact (((memRead s hread).trans (data u b)).trans (emit _ _)).trans (bumpIdx _ hu)
  case isFalse =>
    cases h
    exact finishXfer s _

theorem addrAckWrite (h : addrAckWrite r s = .ok t) : EngineKeeps s t :=
  (bus s .mwd).trans (sendNext h)

theorem readByte {b : Byte} (h : readByte r b s = .ok t) : EngineKeeps s t := by
  unfold Machine.readByte at h
  split at h
  · cases h
  case isFalse hmore =>
    split at h <;> cases h
    case h_2 u hwrite =>
      have hu : (u.buf .mrd).more = true := more_of_memWrite hwrite (by simpa using hmore)
      exact (((data s b).trans (memWrite _ hwrite)).trans (bumpIdx u hu)).trans (readArbitrate _)

theorem masterByte {e : Snap} (h : masterByte e r s = .ok t) : EngineKeeps s t := by
  unfold Machine.masterByte at h
  split at h
  · cases h
  · split at h
    case h_1 =>
      split at h
      · cases h
        exact addrNak s _
      · exact addrAckWrite h
    case h_2 =>
      cases h
      split
      · exact addrNak s _
      · exact addrAckRead s
    case h_3 =>
      split at h
      · cases h
        exact writeNak s
      · exact sendNext h
    case h_4 => exact readByte h
    all_goals cases h

theorem matchAfterLoss {e : Snap} (h : matchAfterLoss e r s = .ok t) : EngineKeeps s t := by
  unfold Machine.matchAfterLoss at h
  split at h
  · exact addressMatch h
  · cases h
    exact .refl _

/-- The RELEASE of a lost bus, emitted or not. -/
theorem release_if (b : Bool) : EngineKeeps s (if b then s.emit .release else s) := by
  split
  · exact emit s _
  · exact .refl s

theorem arbEvent {e : Snap} (h : arbEvent e r s = .ok t) : EngineKeeps s t := by
  unfold Machine.arbEvent at h
  split at h
  · cases h
  · split at h
    · cases h
    · refine .trans ((release_if e.lostArb).trans { mstat := ?_ }) (matchAfterLoss h)
      split <;> exact stickyLe_loseBus _ _

theorem masterEvent {e : Snap} (h : masterEvent e r s = .ok t) : EngineKeeps s t := by
  unfold Machine.masterEvent at h
  split at h
  · exact arbEvent h
  · split at h
    · cases h
    · split at h <;> cases h
      case h_2 u hbyte =>
        have hu : EngineKeeps s u := by
          split at hbyte
          · exact masterByte hbyte
          · cases hbyte
            exact .refl s
        refine hu.trans ?_
        split
        · exact masterStop u
        · exact .refl u

/-! Pending manual commands -/

variable (s)

theorem stopDone : EngineKeeps s s.stopDone := (bus s .idle).trans (complete _ _)

theorem addrWait (nak : Bool) : EngineKeeps s (s.addrWait nak) := by
  unfold State.addrWait
  split
  · exact { actions := List.prefix_append .. }
  · exact (bus s _).trans (complete _ _)

theorem writeWait (nak : Bool) : EngineKeeps s (s.writeWait nak) := by
  unfold State.writeWait
  split
  · exact (bus s _).trans (complete _ _)
  · exact complete s _

theorem readWait (b : Byte) : EngineKeeps s (s.readWait b) := by
  unfold State.readWait
  refine .trans (t := { s with data := b, rdata := b.setWidth 32 }) {} (.trans ?_ (complete _ _))
  split
  · exact emit _ _
  · exact (emit _ _).trans (bus _ _)

theorem byteWait (e : Snap) : EngineKeeps s (s.byteWait e) := by
  unfold State.byteWait
  split
  · exact addrWait s _
  · split
    · exact writeWait s _
    · split
      · exact readWait s _
      · exact .refl s

variable {s}

theorem manualArb {e : Snap} (h : manualArb e r s = .ok t) : EngineKeeps s t := by
  unfold Machine.manualArb at h
  split at h
  · cases h
  · exact (((release_if e.lostArb).trans (bus _ .idle)).trans (complete _ _)).trans
      (matchAfterLoss h)

theorem manualWait {e : Snap} (h : manualWait e r s = .ok t) : EngineKeeps s t := by
  unfold Machine.manualWait at h
  dsimp only at h
  split at h
  · exact manualArb h
  · split at h
    · cases h
    · split at h
      · split at h <;> cases h
        exact stopDone s
      · split at h
        · cases h
        · split at h
          · split at h <;> cases h
            exact (byteWait s e).trans (stopDone _)
          · cases h
            exact byteWait s e

/-- Handling a snapshot, by whichever of the handlers takes it (40 R103). -/
theorem handle {e : Snap} (h : handle e r s = .ok t) : EngineKeeps s t := by
  unfold Machine.handle at h
  split at h
  · cases h
    exact timeoutRecover s
  · split at h
    · cases h
      exact .refl s
    · split at h
      · exact manualWait h
      · split at h
        · exact masterEvent h
        · exact slaveEvent h

end
end EngineKeeps
end Sys2Proof.Machine
end

section
/-! The invariant of 10_state R45 in three parts: the faults (I6), the descriptors and memory (I1, I7),
and the control part (I2 to I5, I8), which ties the flags to BusState. Of the control part, what it says in
each kind of bus state, and what establishes it there. -/

namespace Sys2Proof.Machine

/-! ### The parts -/

/-- I6. -/
structure State.FaultOk (s : State) : Prop where
  fatalConfig : s.fatal = true → s.cfg.timeoutEn = false
  desyncConfig : s.desync = true → s.cfg.timeoutEn = true

/-- I1, I7, the widths of the operand registers and descriptors, and the form of memory. -/
structure State.BuffersOk (s : State) : Prop where
  idxLeCap : ∀ b, (s.buf b).idx.toNat ≤ (s.buf b).cap.toNat
  bufFits : ∀ b, (s.buf b).ptr.toNat + (s.buf b).cap.toNat ≤ 2 ^ s.cfg.aw
  ptrWidth : s.ptr.toNat < 2 ^ s.cfg.aw
  cntWidth : s.cnt.toNat < 2 ^ s.cfg.cntW
  bufPtrWidth : ∀ b, (s.buf b).ptr.toNat < 2 ^ s.cfg.aw
  bufCapWidth : ∀ b, (s.buf b).cap.toNat < 2 ^ s.cfg.cntW
  memCanonical : Memory.wf s.mem = true

/-- I2 to I5, I8, and the facts beside them. -/
structure State.ControlOk (s : State) : Prop where
  stopIeState : s.stopIe = true → s.bus.inTransfer = true ∨ s.bus = .swd
  xferState : s.mstat.xferInp = true → s.bus.inTransfer = true
  busyState : s.cmdstat.busy = true →
    s.mstat.xferInp = false ∧ s.en = true ∧ s.bus.isMaster = true
  rdBusyState : s.sstat.rdBusy = true ↔ s.bus = .srd
  wrBusyState : s.sstat.wrBusy = true ↔ s.bus = .swd
  disabled : s.en = false →
    s.bus = .idle ∧ s.stopIe = false ∧ s.mstat.xferInp = false ∧ s.sstat.rdBusy = false ∧
      s.sstat.wrBusy = false ∧ s.cmdstat.busy = false
  stopIeXfer : s.stopIe = true → s.bus.isMaster = true → s.mstat.xferInp = true
  wstopBusy : s.cmdstat.wstop = true → s.cmdstat.busy = true
  pendingPhase : s.cmdstat.busy = true → s.pendingPhaseOk = true
  xferDir : s.mstat.xferInp = true → s.dirAgrees = true

/-- The invariant is its three parts. -/
theorem inv_iff {s : State} : s.Inv ↔ s.FaultOk ∧ s.BuffersOk ∧ s.ControlOk :=
  ⟨fun h => ⟨{ h with }, { h with }, { h with }⟩, fun ⟨f, b, c⟩ => { f, b, c with }⟩

/-- Empty descriptors keep every bound. -/
theorem State.BuffersOk.of_empty {s : State} (empty : ∀ b, s.buf b = .zero)
    (ptr : s.ptr.toNat < 2 ^ s.cfg.aw) (cnt : s.cnt.toNat < 2 ^ s.cfg.cntW)
    (mem : Memory.wf s.mem = true) : s.BuffersOk where
  idxLeCap b := by rw [empty]; exact Nat.le_refl _
  bufFits b := by rw [empty]; exact Nat.zero_le _
  ptrWidth := ptr
  cntWidth := cnt
  bufPtrWidth b := by rw [empty]; exact Nat.two_pow_pos _
  bufCapWidth b := by rw [empty]; exact Nat.two_pow_pos _
  memCanonical := mem

/-! ### The control part by the kind of bus state -/

theorem BusState.ne_slave_of_isMaster {b : BusState} (h : b.isMaster = true) :
    b ≠ .srd ∧ b ≠ .swd := by
  cases b <;> simp_all [BusState.isMaster]

theorem BusState.isMaster_of_inTransfer {b : BusState} (h : b.inTransfer = true) :
    b.isMaster = true := by
  cases b <;> simp_all [BusState.isMaster, BusState.inTransfer]

theorem BusState.isMaster_of_holdsBus {b : BusState} (h : b.holdsBus = true) :
    b.isMaster = true := by
  cases b <;> simp_all [BusState.holdsBus, BusState.isMaster]

namespace State.ControlOk
variable {s : State}

/-- Outside the master states nothing of the master is in flight or pending. -/
theorem of_not_master (h : s.ControlOk) (hb : s.bus.isMaster = false) :
    s.mstat.xferInp = false ∧ s.cmdstat.busy = false ∧ s.cmdstat.wstop = false := by
  have hx : s.mstat.xferInp = false := by
    by_contra hx
    have := BusState.isMaster_of_inTransfer (h.xferState (by simpa using hx))
    simp [hb] at this
  have hy : s.cmdstat.busy = false := by
    by_contra hy
    obtain ⟨-, -, hm⟩ := h.busyState (by simpa using hy)
    simp [hb] at hm
  exact ⟨hx, hy, by simpa [hy] using h.wstopBusy⟩

/-- In a master state the core is enabled and no slave channel is open. -/
theorem of_master (h : s.ControlOk) (hb : s.bus.isMaster = true) :
    s.en = true ∧ s.sstat.rdBusy = false ∧ s.sstat.wrBusy = false := by
  obtain ⟨hsrd, hswd⟩ := BusState.ne_slave_of_isMaster hb
  have hen : s.en = true := by
    by_contra hen
    obtain ⟨hidle, -⟩ := h.disabled (by simpa using hen)
    simp [hidle, BusState.isMaster] at hb
  exact ⟨hen, by simpa [hsrd] using h.rdBusyState, by simpa [hswd] using h.wrBusyState⟩

/-- In Idle and in the master states no slave channel is open. -/
theorem slaveQuiet (h : s.ControlOk) (hb : s.bus = .idle ∨ s.bus.isMaster = true) :
    s.sstat.rdBusy = false ∧ s.sstat.wrBusy = false ∧ s.bus ≠ .swd := by
  rcases hb with hb | hb
  · exact ⟨by simpa [hb] using h.rdBusyState, by simpa [hb] using h.wrBusyState, by simp [hb]⟩
  · obtain ⟨-, hrd, hwr⟩ := h.of_master hb
    obtain ⟨-, hswd⟩ := BusState.ne_slave_of_isMaster hb
    exact ⟨hrd, hwr, hswd⟩

/-- A transfer in flight: an enabled master state, nothing else going on. -/
theorem of_xfer (h : s.ControlOk) (hx : s.mstat.xferInp = true) :
    s.bus.isMaster = true ∧ s.en = true ∧ s.sstat.rdBusy = false ∧ s.sstat.wrBusy = false ∧
      s.cmdstat.busy = false ∧ s.cmdstat.wstop = false := by
  have hm := BusState.isMaster_of_inTransfer (h.xferState hx)
  obtain ⟨hen, hrd, hwr⟩ := h.of_master hm
  have hy : s.cmdstat.busy = false := by
    by_contra hy
    obtain ⟨hnot, -, -⟩ := h.busyState (by simpa using hy)
    simp [hx] at hnot
  exact ⟨hm, hen, hrd, hwr, hy, by simpa [hy] using h.wstopBusy⟩

/-- With nothing pending WSTOP is 0. -/
theorem wstop_false (h : s.ControlOk) (hy : s.cmdstat.busy = false) : s.cmdstat.wstop = false := by
  simpa [hy] using h.wstopBusy

/-- With no transfer in flight, a Stop is awaited in SWD alone. -/
theorem stopIe_false (h : s.ControlOk) (hx : s.mstat.xferInp = false) (hb : s.bus ≠ .swd) :
    s.stopIe = false := by
  by_contra hi
  have hi : s.stopIe = true := by simpa using hi
  have hm := BusState.isMaster_of_inTransfer ((h.stopIeState hi).resolve_right hb)
  simpa [hx] using h.stopIeXfer hi hm

/-- Idle: everything is quiet. -/
theorem idle (bus : s.bus = .idle) (stopIe : s.stopIe = false) (xfer : s.mstat.xferInp = false)
    (rd : s.sstat.rdBusy = false) (wr : s.sstat.wrBusy = false) (busy : s.cmdstat.busy = false)
    (wstop : s.cmdstat.wstop = false) : s.ControlOk := by
  constructor <;> simp_all

/-- SRD: the read channel is open. -/
theorem srd (bus : s.bus = .srd) (en : s.en = true) (stopIe : s.stopIe = false)
    (xfer : s.mstat.xferInp = false) (rd : s.sstat.rdBusy = true) (wr : s.sstat.wrBusy = false)
    (busy : s.cmdstat.busy = false) (wstop : s.cmdstat.wstop = false) : s.ControlOk := by
  constructor <;> simp_all

/-- SWD: the write channel is open, its Stop awaited or not. -/
theorem swd (bus : s.bus = .swd) (en : s.en = true) (xfer : s.mstat.xferInp = false)
    (rd : s.sstat.rdBusy = false) (wr : s.sstat.wrBusy = true) (busy : s.cmdstat.busy = false)
    (wstop : s.cmdstat.wstop = false) : s.ControlOk := by
  constructor <;> simp_all [BusState.isMaster]

/-- A master state with no transfer in flight: Halted, or a manual transfer, with a command pending in one
of its phases or none. -/
theorem manual (bus : s.bus.isMaster = true) (en : s.en = true) (stopIe : s.stopIe = false)
    (xfer : s.mstat.xferInp = false) (rd : s.sstat.rdBusy = false) (wr : s.sstat.wrBusy = false)
    (wstop : s.cmdstat.wstop = true → s.cmdstat.busy = true)
    (phase : s.cmdstat.busy = true → s.pendingPhaseOk = true) : s.ControlOk where
  stopIeState h := by simp [stopIe] at h
  xferState h := by simp [xfer] at h
  busyState _ := ⟨xfer, en, bus⟩
  rdBusyState := by simp [rd, (BusState.ne_slave_of_isMaster bus).1]
  wrBusyState := by simp [wr, (BusState.ne_slave_of_isMaster bus).2]
  disabled h := by simp [en] at h
  stopIeXfer h := by simp [stopIe] at h
  wstopBusy := wstop
  pendingPhase := phase
  xferDir h := by simp [xfer] at h

/-- A buffered transfer in flight. -/
theorem transfer (bus : s.bus.inTransfer = true) (en : s.en = true) (xfer : s.mstat.xferInp = true)
    (rd : s.sstat.rdBusy = false) (wr : s.sstat.wrBusy = false) (busy : s.cmdstat.busy = false)
    (wstop : s.cmdstat.wstop = false) (dir : s.dirAgrees = true) : s.ControlOk where
  stopIeState _ := .inl bus
  xferState _ := bus
  busyState h := by simp [busy] at h
  rdBusyState := by
    simp [rd, (BusState.ne_slave_of_isMaster (BusState.isMaster_of_inTransfer bus)).1]
  wrBusyState := by
    simp [wr, (BusState.ne_slave_of_isMaster (BusState.isMaster_of_inTransfer bus)).2]
  disabled h := by simp [en] at h
  stopIeXfer _ _ := xfer
  wstopBusy h := by simp [wstop] at h
  pendingPhase h := by simp [busy] at h
  xferDir _ := dir

end State.ControlOk
end Sys2Proof.Machine
end

section
/-! Every handler of the event engine keeps the control part of the invariant (10_state R45). -/

namespace Sys2Proof.Machine
namespace State.ControlOk

variable {s t : State} {r : PortReply}

/-! ### The slave role -/

theorem slaveWriteComplete (h : s.ControlOk) (hb : s.bus = .swd) :
    s.slaveWriteComplete.ControlOk := by
  obtain ⟨hx, hy, hw⟩ := h.of_not_master (by rw [hb]; rfl)
  have hr : s.sstat.rdBusy = false := by simpa [hb] using h.rdBusyState
  exact .idle rfl rfl hx hr rfl hy hw

theorem slaveReadComplete (h : s.ControlOk) (hb : s.bus = .srd) :
    s.slaveReadComplete.ControlOk := by
  obtain ⟨hx, hy, hw⟩ := h.of_not_master (by rw [hb]; rfl)
  have hi : s.stopIe = false := h.stopIe_false hx (by simp [hb])
  have hwr : s.sstat.wrBusy = false := by simpa [hb] using h.wrBusyState
  exact .idle rfl hi hx rfl hwr hy hw

theorem closeChannel (h : s.ControlOk) : s.closeChannel.ControlOk := by
  unfold State.closeChannel
  split
  · exact h.slaveWriteComplete ‹_›
  · exact h.slaveReadComplete ‹_›
  all_goals exact h

theorem closeChannel_if (h : s.ControlOk) (b : Bool) :
    (if b then s.closeChannel else s).ControlOk := by
  split
  · exact h.closeChannel
  · exact h

theorem slaveLoad (h : s.ControlOk) (ht : slaveLoad r s = .ok t) : t.ControlOk := by
  unfold Machine.slaveLoad at ht
  split at ht
  · rcases memRead_cases s r s.srd.addr with ⟨-, -, hok⟩ | ⟨e, -, -, he⟩
    · rw [hok] at ht
      cases ht
      exact { h with }
    · rw [he] at ht
      cases ht
  · cases ht
    exact { h with }

theorem slaveWriteByte {b : Byte} (h : s.ControlOk) (ht : slaveWriteByte r b s = .ok t) :
    t.ControlOk := by
  unfold Machine.slaveWriteByte at ht
  dsimp only at ht
  split at ht
  · rcases memWrite_cases { s with data := b } r s.swr.addr b with ⟨-, -, hok⟩ | ⟨e, -, -, he⟩
    · rw [hok] at ht
      cases ht
      exact { h with }
    · rw [he] at ht
      cases ht
  · cases ht
    exact { h with }

theorem slaveData {e : Snap} (h : s.ControlOk) (ht : slaveData e r s = .ok t) : t.ControlOk := by
  unfold Machine.slaveData at ht
  split at ht
  · split at ht
    · cases ht
      exact h.slaveReadComplete ‹_›
    · exact h.slaveLoad ht
  · exact h.slaveWriteByte ht
  all_goals cases ht

/-- A matched read address opens the read channel. -/
theorem slaveReadStart (h : s.ControlOk) (hb : s.bus = .idle) (hen : s.en = true)
    (ht : slaveReadStart r s = .ok t) : t.ControlOk := by
  obtain ⟨hx, hy, hw⟩ := h.of_not_master (by rw [hb]; rfl)
  have hi : s.stopIe = false := h.stopIe_false hx (by simp [hb])
  have hwr : s.sstat.wrBusy = false := by simpa [hb] using h.wrBusyState
  unfold Machine.slaveReadStart at ht
  refine slaveLoad ?_ ht
  exact .srd rfl hen hi hx rfl hwr hy hw

/-- An address byte in Idle opens a channel or leaves the core Idle. -/
theorem addressMatch {a : Byte} (h : s.ControlOk) (hb : s.bus = .idle) (hen : s.en = true)
    (ht : addressMatch r a s = .ok t) : t.ControlOk := by
  obtain ⟨hx, hy, hw⟩ := h.of_not_master (by rw [hb]; rfl)
  have hi : s.stopIe = false := h.stopIe_false hx (by simp [hb])
  have hrd : s.sstat.rdBusy = false := by simpa [hb] using h.rdBusyState
  have hwr : s.sstat.wrBusy = false := by simpa [hb] using h.wrBusyState
  unfold Machine.addressMatch at ht
  split at ht
  · split at ht
    · exact slaveReadStart (s := { s with data := a }) { h with } hb hen ht
    · cases ht
      exact .swd rfl hen hx hrd rfl hy hw
  · cases ht
    exact .idle rfl hi hx hrd hwr hy hw

end State.ControlOk

theorem closeChannel_en (s : State) : s.closeChannel.en = s.en := (EngineKeeps.closeChannel s).en

/-- Outside the master states the core is Idle once the channel is closed. -/
theorem closeChannel_bus {s : State} (hb : s.bus.isMaster = false) : s.closeChannel.bus = .idle := by
  unfold State.closeChannel
  cases hs : s.bus <;> simp_all [BusState.isMaster, State.slaveWriteComplete, State.slaveReadComplete]

/-- Closing the channel twice is closing it once. -/
theorem closeChannel_closeChannel_if {s : State} (b : Bool) (hb : s.bus.isMaster = false) :
    (if b then s.closeChannel else s).closeChannel = s.closeChannel := by
  cases b
  · rfl
  · have h := closeChannel_bus hb
    simp only [if_true]
    rw [State.closeChannel]
    split <;> simp_all

namespace State.ControlOk
variable {s t : State} {r : PortReply}

theorem slaveEvent {e : Snap} (h : s.ControlOk) (hb : s.bus.isMaster = false) (hen : s.en = true)
    (ht : slaveEvent e r s = .ok t) : t.ControlOk := by
  unfold Machine.slaveEvent at ht
  dsimp only at ht
  split at ht
  · cases ht
  · split at ht
    · split at ht
      · cases ht
      · rw [closeChannel_closeChannel_if e.stop hb] at ht
        exact h.closeChannel.addressMatch (closeChannel_bus hb) ((closeChannel_en s).trans hen) ht
    · split at ht
      · split at ht <;> cases ht
        case h_2 u hdata => exact (h.slaveData hdata).closeChannel_if e.stop
      · split at ht
        · cases ht
        · split at ht <;> cases ht
          · exact h.closeChannel
          · exact h

end State.ControlOk

/-! ### The master role -/

/-- The control part in a master state with no manual command pending, where `master(E)` works. -/
structure State.MasterOk (s : State) : Prop extends s.ControlOk where
  isMaster : s.bus.isMaster = true
  notPending : s.cmdstat.busy = false

/-- A buffered transfer in flight whose Stop is not awaited. -/
structure State.XferOk (s : State) : Prop extends s.ControlOk where
  xfer : s.mstat.xferInp = true
  noStop : s.stopIe = false

namespace State.XferOk
variable {s t : State} {r : PortReply}

theorem masterOk (h : s.XferOk) : s.MasterOk := by
  obtain ⟨hm, -, -, -, hy, -⟩ := h.of_xfer h.xfer
  exact { h with isMaster := hm, notPending := hy }

theorem haltComplete (h : s.XferOk) (d : Dir) : (s.haltComplete d).MasterOk := by
  obtain ⟨-, hen, hrd, hwr, hy, hw⟩ := h.of_xfer h.xfer
  have hc : (s.haltComplete d).ControlOk :=
    .manual rfl hen h.noStop rfl hrd hwr (by simp [State.haltComplete, hw])
      (by simp [State.haltComplete, hy])
  exact { hc with isMaster := rfl, notPending := hy }

theorem finishXfer (h : s.XferOk) (d : Dir) : (s.finishXfer d).MasterOk := by
  unfold State.finishXfer
  split
  · exact h.haltComplete d
  · obtain ⟨hm, hen, hrd, hwr, hy, hw⟩ := h.of_xfer h.xfer
    have hc : { s.emit .stop with stopIe := true }.ControlOk :=
      .transfer (h.xferState h.xfer) hen h.xfer hrd hwr hy hw (h.xferDir h.xfer)
    exact { hc with isMaster := hm, notPending := hy }

/-- From the address state of its direction a transfer moves on to the data state. -/
theorem moveTo (h : s.XferOk) {b : BusState} (hb : b.inTransfer = true)
    (hd : { s with bus := b }.dirAgrees = true) : { s with bus := b }.XferOk := by
  obtain ⟨-, hen, hrd, hwr, hy, hw⟩ := h.of_xfer h.xfer
  have hc : { s with bus := b }.ControlOk := .transfer hb hen h.xfer hrd hwr hy hw hd
  exact { hc with xfer := h.xfer, noStop := h.noStop }

theorem sendNext (h : s.XferOk) (ht : sendNext r s = .ok t) : t.MasterOk := by
  unfold Machine.sendNext at ht
  split at ht
  · rcases memRead_cases s r s.mwr.addr with ⟨-, -, hok⟩ | ⟨e, -, -, he⟩
    · rw [hok] at ht
      cases ht
      exact { h.masterOk with }
    · rw [he] at ht
      cases ht
  · cases ht
    exact h.finishXfer _

theorem addrAckWrite (h : s.XferOk) (hb : s.bus = .mwa) (ht : addrAckWrite r s = .ok t) :
    t.MasterOk := by
  have hd : s.dirAgrees = true := h.xferDir h.xfer
  refine (h.moveTo (b := .mwd) rfl ?_).sendNext ht
  simpa [State.dirAgrees, hb] using hd

theorem addrAckRead (h : s.XferOk) (hb : s.bus = .mra) : s.addrAckRead.MasterOk := by
  have hd : s.dirAgrees = true := h.xferDir h.xfer
  have hmoved : { s with bus := .mrd }.XferOk :=
    h.moveTo rfl (by simpa [State.dirAgrees, hb] using hd)
  unfold State.addrAckRead
  dsimp only
  split
  · exact { hmoved.masterOk with }
  · exact hmoved.finishXfer _

theorem addrNak (h : s.XferOk) (d : Dir) : (s.addrNak d).MasterOk :=
  finishXfer (s := { s with mstat := s.mstat.nakAddr }) { h with } d

theorem writeNak (h : s.XferOk) : s.writeNak.MasterOk := by
  unfold State.writeNak
  split
  · exact finishXfer (s := { s with mstat := s.mstat.shorten }) { h with } _
  · exact h.finishXfer _

theorem readArbitrate (h : s.XferOk) : s.readArbitrate.MasterOk := by
  unfold State.readArbitrate
  split
  · exact { h.masterOk with }
  · exact finishXfer (s := s.emit .nak) { h with } _

theorem readByte {b : Byte} (h : s.XferOk) (ht : readByte r b s = .ok t) : t.MasterOk := by
  unfold Machine.readByte at ht
  split at ht
  · cases ht
  · rcases memWrite_cases { s with data := b } r s.mrd.addr b with ⟨-, -, hok⟩ | ⟨e, -, -, he⟩
    · rw [hok] at ht
      cases ht
      exact readArbitrate { h with }
    · rw [he] at ht
      cases ht

end State.XferOk

namespace State.MasterOk
variable {s t : State} {r : PortReply}

theorem masterByte {e : Snap} (h : s.MasterOk) (ht : masterByte e r s = .ok t) : t.MasterOk := by
  unfold Machine.masterByte at ht
  split at ht
  · cases ht
  case isFalse hgate =>
    have hx : s.XferOk := { h with xfer := by simp_all, noStop := by simp_all }
    split at ht
    case h_1 hb =>
      split at ht
      · cases ht
        exact hx.addrNak _
      · exact hx.addrAckWrite hb ht
    case h_2 hb =>
      cases ht
      split
      · exact hx.addrNak _
      · exact hx.addrAckRead hb
    case h_3 hb =>
      split at ht
      · cases ht
        exact hx.writeNak
      · exact hx.sendNext ht
    case h_4 => exact hx.readByte ht
    all_goals cases ht

theorem masterStop (h : s.MasterOk) : s.masterStop.ControlOk := by
  obtain ⟨-, hrd, hwr⟩ := h.of_master h.isMaster
  exact .idle rfl rfl rfl hrd hwr h.notPending (h.wstop_false h.notPending)

end State.MasterOk

namespace State.ControlOk
variable {s t : State} {r : PortReply}

/-- A slave address carried by the snapshot that lost the bus finds the core Idle. -/
theorem matchAfterLoss {e : Snap} (ht : matchAfterLoss e r s = .ok t) (h : s.ControlOk)
    (hb : s.bus = .idle) (hen : s.en = true) : t.ControlOk := by
  unfold Machine.matchAfterLoss at ht
  split at ht
  · exact h.addressMatch hb hen ht
  · cases ht
    exact h

end State.ControlOk

namespace State.MasterOk
variable {s t : State} {r : PortReply}

theorem arbEvent {e : Snap} (h : s.MasterOk) (ht : arbEvent e r s = .ok t) : t.ControlOk := by
  obtain ⟨hen, hrd, hwr⟩ := h.of_master h.isMaster
  have hw := h.wstop_false h.notPending
  unfold Machine.arbEvent at ht
  split at ht
  · cases ht
  · split at ht
    · cases ht
    · have hc : ∀ l : List Action, { s with
          actions := l
          mstat := s.mstat.loseBus e.lostArb
          stopIe := false
          bus := .idle }.ControlOk := fun l => .idle rfl rfl rfl hrd hwr h.notPending hw
      dsimp only at ht
      split at ht
      · exact .matchAfterLoss ht (hc _) rfl hen
      · exact .matchAfterLoss ht (hc _) rfl hen

theorem masterEvent {e : Snap} (h : s.MasterOk) (ht : masterEvent e r s = .ok t) :
    t.ControlOk := by
  unfold Machine.masterEvent at ht
  split at ht
  · exact h.arbEvent ht
  · split at ht
    · cases ht
    · split at ht <;> cases ht
      case h_2 u hbyte =>
        have hu : u.MasterOk := by
          split at hbyte
          · exact h.masterByte hbyte
          · cases hbyte
            exact h
        split
        · exact hu.masterStop
        · exact { hu with }

end State.MasterOk

/-! ### Pending manual commands -/

/-- The control part with a manual command pending. -/
structure State.PendingOk (s : State) : Prop extends s.ControlOk where
  pending : s.cmdstat.busy = true

namespace State.PendingOk
variable {s t : State} {r : PortReply}

/-- A pending command: an enabled master state with no transfer in flight and no Stop awaited. -/
theorem quiet (h : s.PendingOk) :
    s.bus.isMaster = true ∧ s.en = true ∧ s.stopIe = false ∧ s.mstat.xferInp = false ∧
      s.sstat.rdBusy = false ∧ s.sstat.wrBusy = false := by
  obtain ⟨hx, hen, hm⟩ := h.busyState h.pending
  obtain ⟨-, hrd, hwr⟩ := h.of_master hm
  have hi : s.stopIe = false := h.stopIe_false hx (BusState.ne_slave_of_isMaster hm).2
  exact ⟨hm, hen, hi, hx, hrd, hwr⟩

/-- Completing the command in a master state. -/
theorem complete (h : s.PendingOk) {b : BusState} (hb : b.isMaster = true) (c : ResultCode) :
    ({ s with bus := b }.complete c).ControlOk := by
  obtain ⟨-, hen, hi, hx, hrd, hwr⟩ := h.quiet
  exact .manual hb hen hi hx hrd hwr nofun nofun

/-- Completing the command in Idle. -/
theorem complete_idle (h : s.PendingOk) (c : ResultCode) :
    ({ s with bus := .idle }.complete c).ControlOk := by
  obtain ⟨-, -, hi, hx, hrd, hwr⟩ := h.quiet
  exact .idle rfl hi hx hrd hwr rfl rfl

/-- A pending Start or Restart whose NAK is not yet in waits in an address state (42 R196). -/
theorem awaitsAddress (h : s.PendingOk) (ha : s.pendingAddress = true) :
    s.bus.awaitsAddress = true := by
  have hp := h.pendingPhase h.pending
  simp only [State.pendingPhaseOk, State.pendingAddress, Bool.or_eq_true, Bool.and_eq_true,
    beq_iff_eq] at hp ha
  rcases ha with ha | ha <;>
    simpa [ha, opSendStart, opSendRestart, opSendStop, opWriteByte, opReadByte] using hp

theorem addrWait (h : s.PendingOk) (ha : s.pendingAddress = true) (nak : Bool) :
    (s.addrWait nak).ControlOk := by
  unfold State.addrWait
  split
  · obtain ⟨hm, hen, hi, hx, hrd, hwr⟩ := h.quiet
    refine .manual hm hen hi hx hrd hwr (fun _ => h.pending) fun _ => ?_
    have hphase : s.pendingAddress = true ∧ s.bus.awaitsAddress = true :=
      ⟨ha, h.awaitsAddress ha⟩
    unfold State.pendingPhaseOk
    simp only [Bool.or_eq_true, Bool.and_eq_true]
    exact .inl (.inl (.inl hphase))
  · exact h.complete (by split <;> rfl) _

theorem writeWait (h : s.PendingOk) (nak : Bool) : (s.writeWait nak).ControlOk := by
  obtain ⟨hm, -⟩ := h.quiet
  unfold State.writeWait
  split
  · exact h.complete rfl _
  · exact h.complete hm _

theorem readWait (h : s.PendingOk) (b : Byte) : (s.readWait b).ControlOk := by
  obtain ⟨hm, -⟩ := h.quiet
  unfold State.readWait
  dsimp only
  split
  · exact { h.complete hm .noError with }
  · exact { h.complete (b := .mh) rfl .noError with }

theorem byteWait (h : s.PendingOk) (e : Snap) : (s.byteWait e).ControlOk := by
  unfold State.byteWait
  split
  · exact h.addrWait ‹_› _
  · split
    · exact h.writeWait _
    · split
      · exact h.readWait _
      · exact { h with }

end State.PendingOk

namespace State.ControlOk
variable {s t : State} {r : PortReply}

theorem stopDone (h : s.ControlOk) (hw : s.cmdstat.wstop = true) : s.stopDone.ControlOk :=
  State.PendingOk.complete_idle { h with pending := h.wstopBusy hw } _

end State.ControlOk

namespace State.PendingOk
variable {s t : State} {r : PortReply}

theorem manualArb {e : Snap} (h : s.PendingOk) (ht : manualArb e r s = .ok t) : t.ControlOk := by
  obtain ⟨-, hen, -⟩ := h.quiet
  unfold Machine.manualArb at ht
  dsimp only at ht
  split at ht
  · cases ht
  · split at ht
    · exact .matchAfterLoss ht { h.complete_idle .arbLost with } rfl hen
    · exact .matchAfterLoss ht (h.complete_idle .startAborted) rfl hen

theorem manualWait {e : Snap} (h : s.PendingOk) (ht : manualWait e r s = .ok t) :
    t.ControlOk := by
  unfold Machine.manualWait at ht
  dsimp only at ht
  split at ht
  · exact h.manualArb ht
  · split at ht
    · cases ht
    · split at ht
      · split at ht <;> cases ht
        exact h.stopDone ‹_›
      · split at ht
        · cases ht
        · split at ht
          · split at ht <;> cases ht
            exact (h.byteWait e).stopDone ‹_›
          · cases ht
            exact h.byteWait e

end State.PendingOk

namespace State.ControlOk
variable {s t : State} {r : PortReply}

theorem timeoutRecover (h : s.ControlOk) : s.timeoutRecover.ControlOk := by
  unfold State.timeoutRecover
  dsimp only
  split
  · exact .idle rfl rfl rfl rfl rfl rfl rfl
  case isFalse hy =>
    have hy : s.cmdstat.busy = false := by simpa using hy
    exact .idle rfl rfl rfl rfl rfl hy (h.wstop_false hy)

/-- Handling a snapshot, by whichever of the handlers takes it (40 R103). -/
theorem handle {e : Snap} (h : s.ControlOk) (hen : s.en = true) (ht : handle e r s = .ok t) :
    t.ControlOk := by
  unfold Machine.handle at ht
  split at ht
  · cases ht
    exact h.timeoutRecover
  · split at ht
    · cases ht
      exact h
    · split at ht
      case isTrue hy => exact State.PendingOk.manualWait { h with pending := hy } ht
      case isFalse hy =>
        split at ht
        case isTrue hm =>
          exact State.MasterOk.masterEvent
            { h with isMaster := hm, notPending := by simpa using hy } ht
        case isFalse hm => exact h.slaveEvent (by simpa using hm) hen ht

end State.ControlOk
end Sys2Proof.Machine
end

section
/-! What an agent's step can do to the core (00_scope R5), said once, and that each such step keeps the
invariant of 10_state R45. -/

namespace Sys2Proof.Machine

/-! ### The event engine -/

namespace EngineKeeps
variable {s t : State}

theorem faultOk (k : EngineKeeps s t) (h : s.FaultOk) : t.FaultOk where
  fatalConfig := by rw [k.fatal, k.cfg]; exact h.fatalConfig
  desyncConfig := by rw [k.cfg]; exact h.desyncConfig ∘ k.desync

theorem buffersOk (k : EngineKeeps s t) (h : s.BuffersOk) : t.BuffersOk where
  idxLeCap := fun b => k.idxLeCap b (h.idxLeCap b)
  bufFits := fun b => by rw [k.bufPtr, k.bufCap, k.cfg]; exact h.bufFits b
  ptrWidth := by rw [k.ptr, k.cfg]; exact h.ptrWidth
  cntWidth := by rw [k.cnt, k.cfg]; exact h.cntWidth
  bufPtrWidth := fun b => by rw [k.bufPtr, k.cfg]; exact h.bufPtrWidth b
  bufCapWidth := fun b => by rw [k.bufCap, k.cfg]; exact h.bufCapWidth b
  memCanonical := k.memCanonical h.memCanonical

end EngineKeeps

section
variable {s t : State}

theorem deliverable_en {e : Snap} (h : s.deliverable e = true) : s.en = true := by
  simp_all [State.deliverable]

theorem deliverable_fatal {e : Snap} (h : s.deliverable e = true) : s.fatal = false := by
  simp_all [State.deliverable]

/-- A handled snapshot keeps the invariant. -/
theorem inv_handle {e : Snap} {r : PortReply} (h : s.Inv) (hen : s.en = true)
    (ht : handle e r s = .ok t) : t.Inv := by
  obtain ⟨hf, hb, hc⟩ := inv_iff.mp h
  have k := EngineKeeps.handle ht
  exact inv_iff.mpr ⟨k.faultOk hf, k.buffersOk hb, hc.handle hen ht⟩

/-- A desync sets the fault that the configuration allows (I6). -/
theorem inv_takeDesync (h : s.Inv) : s.takeDesync.Inv := by
  unfold State.takeDesync
  split
  case isTrue ht => exact { h with desyncConfig := fun _ => ht }
  case isFalse ht => exact { h with fatalConfig := fun _ => by simpa using ht }

theorem inv_eventStep {w : SnapWord} {r : PortReply} (h : s.Inv) (ht : eventStep w r s = .next t) :
    t.Inv := by
  rcases eventStepOn_next ht with ⟨-, rfl⟩ | ⟨hd, hh⟩ | ⟨-, -, rfl⟩
  · exact h
  · exact inv_handle h (deliverable_en hd) hh
  · exact inv_takeDesync h

/-! ### The commands -/

theorem inv_finish (h : s.Inv) (c : ResultCode) : (s.finish c).Inv := { h with }

/-- LASTOP names a phase only while a command is pending, and then no command is accepted. -/
theorem inv_recordOp (h : s.Inv) (hy : s.cmdstat.busy = false) (w : Word) : (s.recordOp w).Inv :=
  { h with pendingPhase := fun hb => by simp [hy] at hb }

/-- A descriptor replaced by one that keeps I1, I7 and the widths. -/
theorem inv_setBuf (h : s.Inv) (b : BufId) {d : Desc} (idx : d.idx.toNat ≤ d.cap.toNat)
    (fits : d.ptr.toNat + d.cap.toNat ≤ 2 ^ s.cfg.aw) (ptr : d.ptr.toNat < 2 ^ s.cfg.aw)
    (cap : d.cap.toNat < 2 ^ s.cfg.cntW) : (s.setBuf b d).Inv := by
  obtain ⟨hf, hb, hc⟩ := inv_iff.mp h
  refine inv_iff.mpr ⟨?faults, ?buffers, ?control⟩
  case faults => cases b <;> exact { hf with }
  case control => cases b <;> exact { hc with }
  case buffers =>
    constructor <;> simp only [buf_setBuf, setBuf_cfg, setBuf_ptr, setBuf_cnt, setBuf_mem]
    case idxLeCap => intro x; split; exacts [idx, hb.idxLeCap x]
    case bufFits => intro x; split; exacts [fits, hb.bufFits x]
    case ptrWidth => exact hb.ptrWidth
    case cntWidth => exact hb.cntWidth
    case bufPtrWidth => intro x; split; exacts [ptr, hb.bufPtrWidth x]
    case bufCapWidth => intro x; split; exacts [cap, hb.bufCapWidth x]
    case memCanonical => exact hb.memCanonical

/-- A buffer installed from PTR and CNT (41 R160, 43 R222). -/
theorem inv_setBuf_operands (h : s.Inv) (b : BufId)
    (fits : s.ptr.toNat + s.cnt.toNat ≤ 2 ^ s.cfg.aw) : (s.setBuf b ⟨s.ptr, s.cnt, 0⟩).Inv :=
  inv_setBuf h b (Nat.zero_le _) fits h.ptrWidth h.cntWidth

theorem inv_clearIdx (h : s.Inv) (b : BufId) : (s.clearIdx b).Inv := by
  have hset : (s.setIdx b 0).Inv :=
    inv_setBuf h b (Nat.zero_le _) (h.bufFits b) (h.bufPtrWidth b) (h.bufCapWidth b)
  exact inv_finish hset _

/-- INIT's effects give the core its reset values, but for what they do not write (44 R251). -/
theorem inv_initEffects (h : s.Inv) (hen : s.en = false) : s.initEffects.Inv := by
  obtain ⟨hf, hb, hc⟩ := inv_iff.mp h
  obtain ⟨-, -, -, -, -, hy⟩ := hc.disabled hen
  have hdesc : ∀ b, s.initEffects.buf b = .zero := fun b => by cases b <;> rfl
  refine inv_iff.mpr ⟨?faults, ?buffers, ?control⟩
  case faults => exact { hf with desyncConfig := nofun }
  case buffers => exact .of_empty hdesc hb.ptrWidth hb.cntWidth hb.memCanonical
  case control => exact .idle rfl rfl rfl rfl rfl hy (hc.wstop_false hy)

theorem inv_enable (h : s.Inv) : { s with en := true }.Inv :=
  { h with
    busyState := fun hb => ⟨(h.busyState hb).1, rfl, (h.busyState hb).2.2⟩
    disabled := nofun }

theorem inv_stop (h : s.Inv) (hy : s.cmdstat.busy = false) (l : List Action) :
    { s with
      actions := s.actions ++ l
      mstat := s.mstat.abandon
      sstat := s.sstat.dropBusy
      stopIe := false
      desync := false
      bus := .idle
      en := false }.Inv := by
  obtain ⟨hf, hb, hc⟩ := inv_iff.mp h
  exact inv_iff.mpr ⟨{ hf with desyncConfig := nofun }, { hb with },
    .idle rfl rfl rfl rfl rfl hy (hc.wstop_false hy)⟩

/-- The checks of `buf_arm` that the invariant rests on (41 R160). -/
theorem bufArmRefusal_none {m : TransferMode} (h : bufArmRefusal m s = none) :
    s.en = true ∧ (s.bus = .idle ∨ s.bus.isMaster = true) ∧
      s.ptr.toNat + s.cnt.toNat ≤ 2 ^ s.cfg.aw := by
  unfold bufArmRefusal at h
  split at h; · cases h
  split at h; · cases h
  split at h; · cases h
  split at h; · cases h
  case isFalse hen hbus _ hfits =>
    refine ⟨by simpa using hen, ?_, (bufferFits_iff ..).mp (by simp_all)⟩
    by_cases hidle : s.bus = .idle
    · exact .inl hidle
    · have hmh : s.bus = .mh := by simp_all
      exact .inr (by rw [hmh]; rfl)

/-- Arming leaves the buffer of the direction installed and a transfer in flight in its address state
(41 R160). -/
theorem inv_armedWith (h : s.Inv) (hy : s.cmdstat.busy = false) {m : TransferMode}
    (passed : bufArmRefusal m s = none) (d : Dir) (a7 : Addr7) (act : Action) :
    (s.armedWith d a7 m act).Inv := by
  obtain ⟨hen, hb, hfits⟩ := bufArmRefusal_none passed
  obtain ⟨-, -, hc⟩ := inv_iff.mp h
  obtain ⟨hrd, hwr, -⟩ := hc.slaveQuiet hb
  have hw := hc.wstop_false hy
  obtain ⟨hf, hbuf, -⟩ := inv_iff.mp (inv_setBuf_operands h (masterBuf d) hfits)
  refine inv_iff.mpr ⟨{ hf with }, { hbuf with }, ?_⟩
  cases d
  · exact .transfer rfl hen rfl hrd hwr hy hw rfl
  · exact .transfer rfl hen rfl hrd hwr hy hw rfl

/-- A manual command becomes pending in a master state, in one of its phases (42 R190). -/
theorem inv_pending (h : s.Inv) (ready : s.manualReady = true)
    (hb : s.bus = .idle ∨ s.bus.isMaster = true) {b : BusState} (hm : b.isMaster = true) (d : Byte)
    (l : List Action) (marg wstop : Bool)
    (phase : ({ s with data := d, actions := l, bus := b }.goPending marg wstop).pendingPhaseOk =
      true) : ({ s with data := d, actions := l, bus := b }.goPending marg wstop).Inv := by
  obtain ⟨hf, hbuf, hc⟩ := inv_iff.mp h
  obtain ⟨hrd, hwr, hswd⟩ := hc.slaveQuiet hb
  obtain ⟨hen, hx⟩ : s.en = true ∧ s.mstat.xferInp = false := by simp_all [State.manualReady]
  exact inv_iff.mpr ⟨{ hf with }, { hbuf with },
    .manual hm hen (hc.stopIe_false hx hswd) hx hrd hwr (fun _ => rfl) fun _ => phase⟩

theorem inv_manualAddress (h : s.Inv) (ready : s.manualReady = true)
    (hb : s.bus = .idle ∨ s.bus.isMaster = true)
    (hl : s.cmdstat.lastop = opSendStart ∨ s.cmdstat.lastop = opSendRestart) (rw : Dir) (b : Byte)
    (act : Action) : (s.manualAddress rw b act).Inv := by
  refine inv_pending h ready hb (by cases rw <;> rfl) b _ rw.bit false ?_
  rcases hl with hl | hl <;> cases rw <;>
    simp [State.pendingPhaseOk, State.pendingAddress, hl, addressState, BusState.awaitsAddress]

/-- Every effect of an accepted command keeps the invariant; LASTOP names the command by then. -/
theorem inv_commandEffect {i : Instr} (h : s.Inv) (hy : s.cmdstat.busy = false)
    (hl : s.cmdstat.lastop = i.opcode) (e : CommandEffect s i t) : t.Inv := by
  cases e
  case refused => exact inv_finish h _
  case init hen => exact inv_finish (inv_initEffects h hen) _
  case enable => exact inv_finish (inv_enable h) _
  case startEnabling => exact inv_finish (inv_enable h) _
  case startInitialising hen => exact inv_finish (inv_enable (inv_initEffects h hen)) _
  case stop l => exact inv_finish (inv_stop h hy l) _
  case writeBuf passed => exact inv_finish (inv_armedWith h hy passed ..) _
  case readBuf passed => exact inv_finish (inv_armedWith h hy passed ..) _
  case sendStart ready hb => exact inv_manualAddress h ready (.inl hb) (.inl hl) ..
  case sendRestart ready holds =>
    exact inv_manualAddress h ready (.inr (BusState.isMaster_of_holdsBus holds)) (.inr hl) ..
  case sendStop ready holds =>
    have hm := BusState.isMaster_of_holdsBus holds
    exact inv_pending h ready (.inr hm) hm s.data _ false true
      (by simp_all [State.pendingPhaseOk, opSendStop, Instr.opcode])
  case writeByte d ready hb =>
    have hm : s.bus.isMaster = true := by rw [hb]; rfl
    exact inv_pending h ready (.inr hm) hm d _ false false
      (by simp_all [State.pendingPhaseOk, opWriteByte, Instr.opcode])
  case readByte k ready hb =>
    have hm : s.bus.isMaster = true := by rw [hb]; rfl
    exact inv_pending h ready (.inr hm) hm s.data _ k false
      (by simp_all [State.pendingPhaseOk, opReadByte, Instr.opcode])
  case returned => exact { h with }
  case clearStatus => exact { h with }
  case clearReadStatus => exact { h with }
  case clearWriteStatus => exact { h with }
  case clearIdx => exact inv_clearIdx h _
  case setAddress => exact { h with }
  case install b fits => exact inv_finish (inv_setBuf_operands h b fits) _

end
end Sys2Proof.Machine
end

section
/-! What an agent's step does to the core, said once for every agent (00_scope R5), and O58. -/

namespace Sys2Proof.Machine

/-- `AgentEffect s x t`: `t` is a state the agent's step `x` can leave behind when taken in `s`. -/
inductive AgentEffect (s : State) : AgentStep → State → Prop
  /-- a host read, a host access to memory, or an ignored write: nothing of the core's own changes -/
  | outside (x : AgentStep) (m : Memory) (v : Word) (l : List Host.Cell) (n : Nat)
      (memCanonical : Memory.wf s.mem = true → Memory.wf m = true) :
      AgentEffect s x { s with mem := m, hostData := v, races := l, draws := n }
  | writePtr {addr : Word} {k : AccessWidth} (v : Word) (off : csrOffset s.cfg addr k = .ok 0x0C)
      (live : s.fatal = false) :
      AgentEffect s (.csrWrite addr k v) { s with ptr := truncPtr s.cfg v }
  | writeCnt {addr : Word} {k : AccessWidth} (v : Word) (off : csrOffset s.cfg addr k = .ok 0x10)
      (live : s.fatal = false) :
      AgentEffect s (.csrWrite addr k v) { s with cnt := truncCnt s.cfg v }
  | writeClkdiv {addr : Word} {k : AccessWidth} (v : Word)
      (off : csrOffset s.cfg addr k = .ok 0x2C) (live : s.fatal = false) :
      AgentEffect s (.csrWrite addr k v) { s with clkdiv := v.setWidth 16 }
  /-- a command word while a command is pending -/
  | overrun (x : AgentStep) (live : s.fatal = false) :
      AgentEffect s x { s with cmdstat := { s.cmdstat with ovr := true } }
  | illegal (x : AgentStep) (w : Word) (live : s.fatal = false) (accepted : s.cmdstat.busy = false) :
      AgentEffect s x (s.recordOp w).illegalWord
  | command {addr : Word} {k : AccessWidth} {w : Word} {i : Instr} {t : State}
      (off : csrOffset s.cfg addr k = .ok 0) (decoded : decode s.cfg w = .ok i)
      (live : s.fatal = false) (accepted : s.cmdstat.busy = false)
      (effect : CommandEffect (s.recordOp w) i t) : AgentEffect s (.csrWrite addr k w) t
  | event {w : SnapWord} {r : PortReply} {t : State} (h : eventStep w r s = .next t) :
      AgentEffect s (.snapshot w r) t
  | reset : AgentEffect s .reset s.hardReset

section
variable {s t : State}

theorem AgentEffect.nothing (x : AgentStep) : AgentEffect s x s := .outside x _ _ _ _ id

theorem cmdWrite_effect {addr : Word} {k : AccessWidth} {w : Word}
    (off : csrOffset s.cfg addr k = .ok 0) (h : cmdWrite w s = .next t) :
    AgentEffect s (.csrWrite addr k w) t := by
  rcases cmdWrite_cases w s with ⟨-, hw⟩ | ⟨hf, -, hw⟩ | ⟨hf, hy, _, -, hw⟩ | ⟨hf, hy, i, hd, hw⟩ <;>
    rw [hw] at h
  · cases h
    exact .nothing _
  · cases h
    exact .overrun _ hf
  · cases h
    exact .illegal _ w hf hy
  · exact .command off hd hf hy (exec_effect h)

theorem hostWrite_effect {addr : Word} {k : AccessWidth} {w : Word}
    (h : hostWrite addr k w s = .next t) : AgentEffect s (.csrWrite addr k w) t := by
  unfold hostWrite at h
  split at h
  · cases h
  case h_2 off hoff =>
    rcases writeCsr_cases off w s with ⟨rfl, hw⟩ | ⟨rfl, hf, hw⟩ | ⟨rfl, hf, hw⟩ | ⟨rfl, hf, hw⟩ |
      ⟨-, -, hw⟩ <;> rw [hw] at h
    · exact cmdWrite_effect hoff h
    · cases h
      exact .writePtr w hoff hf
    · cases h
      exact .writeCnt w hoff hf
    · cases h
      exact .writeClkdiv w hoff hf
    · cases h
      exact .nothing _

theorem hostRead_effect {addr : Word} {k : AccessWidth} (x : AgentStep)
    (h : hostRead addr k s = .next t) : AgentEffect s x t := by
  unfold hostRead at h
  split at h <;> cases h
  exact .outside x _ _ _ _ id

theorem hostStore_effect {addr : Word} {v : Byte} (x : AgentStep)
    (h : hostStore addr v s = .next t) : AgentEffect s x t := by
  unfold hostStore at h
  dsimp only at h
  split at h
  · cases h
  · split at h
    · cases h
      exact .outside x _ _ _ _ fun hm => write_wf hm _ _
    · split at h <;> cases h
      · exact .outside x _ _ _ _ fun hm => write_wf hm _ _
      · exact .outside x _ _ _ _ fun hm => write_wf hm _ _

theorem hostLoad_effect {addr : Word} (x : AgentStep) (h : hostLoad addr s = .next t) :
    AgentEffect s x t := by
  unfold hostLoad at h
  dsimp only at h
  split at h
  · cases h
  · split at h <;> cases h
    · exact .outside x _ _ _ _ id
    · exact .outside x _ _ _ _ id

/-- Whatever state an agent's step leaves is one of its effects. -/
theorem agentStep_effect {x : AgentStep} (h : agentStep x s = .next t) : AgentEffect s x t := by
  cases x
  case csrWrite => exact hostWrite_effect h
  case csrRead => exact hostRead_effect _ h
  case snapshot => exact .event h
  case memStore => exact hostStore_effect _ h
  case memLoad => exact hostLoad_effect _ h
  case reset => cases h; exact .reset

/-- Everything a step can do: nothing with no input, else the effect of the next input's agent. -/
theorem step_effect (h : step s = .next t) :
    t = s ∨ ∃ level a rest u, s.inputs = ⟨level, a⟩ :: rest ∧
      AgentEffect (s.takeInput ⟨level, a⟩ rest) a u ∧ t = u.dropSettledRaces := by
  rcases step_next h with ⟨-, rfl⟩ | ⟨⟨level, a⟩, rest, u, hi, hu, rfl⟩
  · exact .inl rfl
  · exact .inr ⟨level, a, rest, u, hi, agentStep_effect hu, rfl⟩

/-! ### The invariant -/

/-- The reset values have the invariant, in every configuration and with any canonical memory. -/
theorem inv_resetWith (c : Config) {m : Memory} (hm : Memory.wf m = true) :
    { State.resetWith c with mem := m }.Inv := by
  have hdesc : ∀ b, { State.resetWith c with mem := m }.buf b = .zero := fun b => by cases b <;> rfl
  exact inv_iff.mpr ⟨⟨nofun, nofun⟩,
    .of_empty hdesc (Nat.two_pow_pos _) (Nat.two_pow_pos _) hm, .idle rfl rfl rfl rfl rfl rfl rfl⟩

theorem inv_agentEffect {x : AgentStep} (h : s.Inv) (e : AgentEffect s x t) : t.Inv := by
  cases e
  case outside hm => exact { h with memCanonical := hm h.memCanonical }
  case writePtr v _ _ => exact { h with ptrWidth := truncPtr_toNat_lt s.cfg v }
  case writeCnt v _ _ => exact { h with cntWidth := truncCnt_toNat_lt s.cfg v }
  case writeClkdiv => exact { h with }
  case overrun => exact { h with }
  case illegal w _ hy => exact inv_finish (inv_recordOp h hy w) _
  case command hd _ hy effect =>
    exact inv_commandEffect (inv_recordOp h hy _) hy (decode_opcode hd).symm effect
  case event ht => exact inv_eventStep h ht
  case reset => exact { inv_resetWith s.cfg h.memCanonical with }

/-- Settles O58: the effect of every agent keeps the three parts of the invariant, and settling the races
touches none of them. -/
theorem everyStepKeepsTheInvariants : Obligations.EveryStepKeepsTheInvariants := by
  unfold Obligations.EveryStepKeepsTheInvariants
  intro s t h hstep
  rcases step_effect hstep with rfl | ⟨level, a, rest, u, -, e, rfl⟩
  · exact h
  · have hu : u.Inv := inv_agentEffect (s := s.takeInput ⟨level, a⟩ rest) { h with } e
    exact { hu with }

/-- Settles O57: every flag is down, every descriptor empty, and the operand registers are 0. -/
theorem resetStateHasTheInvariants : Obligations.ResetStateHasTheInvariants := by
  unfold Obligations.ResetStateHasTheInvariants
  exact ⟨fun c l m hm => { inv_resetWith c hm with }, inv_resetWith Config.standard rfl⟩

end
end Sys2Proof.Machine
end

section
/-! Who writes what: one relation between the state before and after a step, met by every command's effect
and every agent's step but reset, and the statements on FATAL, the sticky bits, the operand registers and
the histories that it answers (10_state R27, R28, R34, R37 to R39, R44, R48; 60 R272, R275). -/

namespace Sys2Proof.Machine

/-- What a step keeps, given the commands `issued` in it and the window offsets `written`: each register
with one writer but for that writer, each sticky bit but for its clear command and INIT's effects, and both
histories as prefixes. -/
structure StepKeeps (issued : Instr → Prop) (written : Nat → Prop) (s t : State) : Prop where
  ptr : ¬ written 0x0C → t.ptr = s.ptr := by exact fun _ => rfl
  cnt : ¬ written 0x10 → t.cnt = s.cnt := by exact fun _ => rfl
  saddr : (∀ a7, ¬ issued (.slaveSetAddress a7)) → ¬ issued .init → ¬ issued .start →
    t.saddr = s.saddr := by exact fun _ _ _ => rfl
  marg : (∀ i, issued i → i.opcode.toNat < 0x12 ∨ 0x16 < i.opcode.toNat) → t.marg = s.marg := by
    exact fun _ => rfl
  ovr : ¬ issued .init → ¬ issued .start → s.cmdstat.ovr = true → t.cmdstat.ovr = true := by
    exact fun _ _ => id
  mstat : ¬ issued .init → ¬ issued .start → ¬ issued .masterClearStatus →
    s.mstat.StickyLe t.mstat := by exact fun _ _ _ => .refl _
  sstatRead : ¬ issued .init → ¬ issued .start → ¬ issued .slaveClearReadStatus →
    s.sstat.ReadStickyLe t.sstat := by exact fun _ _ _ => ⟨id, id⟩
  sstatWrite : ¬ issued .init → ¬ issued .start → ¬ issued .slaveClearWriteStatus →
    s.sstat.WriteStickyLe t.sstat := by exact fun _ _ _ => ⟨id, id⟩
  actions : s.actions <+: t.actions := by exact List.prefix_rfl
  memHist : s.memHist <+: t.memHist := by exact List.prefix_rfl

section
variable {issued : Instr → Prop} {written : Nat → Prop} {s t : State}

theorem EngineKeeps.stepKeeps (k : EngineKeeps s t) : StepKeeps issued written s t where
  ptr _ := k.ptr
  cnt _ := k.cnt
  saddr _ _ _ := k.saddr
  marg _ := k.marg
  ovr _ _ := k.ovr.trans
  mstat _ _ _ := k.mstat
  sstatRead _ _ _ := k.sstat.1
  sstatWrite _ _ _ := k.sstat.2
  actions := k.actions
  memHist := k.memHist

/-- No manual command, opcodes 0x12 to 0x16, is issued where the latch of MARG is claimed to stay. -/
theorem not_manual {i : Instr} {p : Prop} (hi : issued i)
    (hop : 0x12 ≤ i.opcode.toNat ∧ i.opcode.toNat ≤ 0x16)
    (h : ∀ i, issued i → i.opcode.toNat < 0x12 ∨ 0x16 < i.opcode.toNat) : p := by
  have := h i hi
  omega

theorem CommandEffect.stepKeeps {i : Instr} (e : CommandEffect s i t) (hi : issued i) :
    StepKeeps issued written s t := by
  cases e
  case init =>
    exact {
      saddr := fun _ h => absurd hi h
      ovr := fun h => absurd hi h
      mstat := fun h => absurd hi h
      sstatRead := fun h => absurd hi h
      sstatWrite := fun h => absurd hi h }
  case startInitialising =>
    exact {
      saddr := fun _ _ h => absurd hi h
      ovr := fun _ h => absurd hi h
      mstat := fun _ h => absurd hi h
      sstatRead := fun _ h => absurd hi h
      sstatWrite := fun _ h => absurd hi h }
  case stop => exact { mstat := fun _ _ _ => stickyLe_abandon _, actions := List.prefix_append .. }
  case writeBuf => exact { actions := List.prefix_append .. }
  case readBuf => exact { actions := List.prefix_append .. }
  case sendStart => exact { marg := not_manual hi (by simp [Instr.opcode]), actions := List.prefix_append .. }
  case sendRestart => exact { marg := not_manual hi (by simp [Instr.opcode]), actions := List.prefix_append .. }
  case sendStop => exact { marg := not_manual hi (by simp [Instr.opcode]), actions := List.prefix_append .. }
  case writeByte => exact { marg := not_manual hi (by simp [Instr.opcode]), actions := List.prefix_append .. }
  case readByte => exact { marg := not_manual hi (by simp [Instr.opcode]), actions := List.prefix_append .. }
  case clearStatus => exact { mstat := fun _ _ h => absurd hi h }
  case clearReadStatus => exact { sstatRead := fun _ _ h => absurd hi h }
  case clearWriteStatus => exact { sstatWrite := fun _ _ h => absurd hi h }
  case setAddress a7 => exact { saddr := fun h => absurd hi (h a7) }
  case clearIdx b => cases b <;> exact {}
  case install b _ => cases b <;> exact {}
  all_goals exact {}

/-- A step of the event engine handles its snapshot, or sets one of the two faults and nothing else. -/
theorem eventStep_effect {w : SnapWord} {r : PortReply} (h : eventStep w r s = .next t) :
    EngineKeeps s t ∨ ∃ f d, t = { s with fatal := f, desync := d } := by
  rcases eventStepOn_next h with ⟨-, rfl⟩ | ⟨-, hh⟩ | ⟨-, -, rfl⟩
  · exact .inl (.refl _)
  · exact .inl (.handle hh)
  · right
    unfold State.takeDesync
    split
    · exact ⟨s.fatal, true, rfl⟩
    · exact ⟨true, s.desync, rfl⟩

theorem AgentEffect.stepKeeps {a : AgentStep} (e : AgentEffect s a t) (hr : a ≠ .reset)
    (hissued : ∀ {addr k w i}, a = .csrWrite addr k w → csrOffset s.cfg addr k = .ok 0 →
      decode s.cfg w = .ok i → issued i)
    (hwritten : ∀ {addr k w off}, a = .csrWrite addr k w → csrOffset s.cfg addr k = .ok off →
      written off) : StepKeeps issued written s t := by
  cases e
  case writePtr off _ => exact { ptr := absurd (hwritten rfl off) }
  case writeCnt off _ => exact { cnt := absurd (hwritten rfl off) }
  case overrun => exact { ovr := fun _ _ _ => rfl }
  case command off hd _ _ effect => exact { effect.stepKeeps (hissued rfl off hd) with }
  case event h =>
    rcases eventStep_effect h with k | ⟨f, d, rfl⟩
    · exact k.stepKeeps
    · exact {}
  case reset => exact absurd rfl hr
  all_goals exact {}

theorem ne_reset_of_nextIsReset {level : Bool} {a : AgentStep} {rest : List Input}
    (hi : s.inputs = ⟨level, a⟩ :: rest) (h : s.nextIsReset = false) : a ≠ .reset := by
  rintro rfl
  simp [State.nextIsReset, hi] at h

/-- Every step but reset keeps all this, with the command and the CSR write of its input. -/
theorem step_keeps (h : step s = .next t) (hr : s.nextIsReset = false) :
    StepKeeps (fun i => s.nextCommand = some i) (fun off => s.nextCsrWrite = some off) s t := by
  rcases step_effect h with rfl | ⟨level, a, rest, u, hi, e, rfl⟩
  · exact {}
  · have k : StepKeeps (fun i => s.nextCommand = some i) (fun off => s.nextCsrWrite = some off)
        (s.takeInput ⟨level, a⟩ rest) u := by
      refine e.stepKeeps (ne_reset_of_nextIsReset hi hr) ?issued ?written
      case issued =>
        rintro addr k w i rfl hoff hdec
        simp_all [State.nextCommand]
      case written =>
        rintro addr k w off rfl hoff
        simp_all [State.nextCsrWrite]
    exact { k with }

/-- Under FATAL no agent but the reset input changes the core (60 R275). -/
theorem AgentEffect.frozen {a : AgentStep} (e : AgentEffect s a t) (hf : s.fatal = true)
    (hr : a ≠ .reset) :
    t = { s with mem := t.mem, hostData := t.hostData, races := t.races, draws := t.draws } := by
  cases e
  case outside => rfl
  case event h =>
    rcases eventStepOn_next h with ⟨-, rfl⟩ | ⟨hd, -⟩ | ⟨hd, -⟩
    · rfl
    · exact absurd hf (by simp [deliverable_fatal hd])
    · exact absurd hf (by simp [deliverable_fatal hd])
  case reset => exact absurd rfl hr
  all_goals simp_all

end

/-! ### The statements -/

/-- Settles O49: under FATAL every agent but the reset input leaves the core frozen. -/
theorem onlyResetLeavesFatal : Obligations.OnlyResetLeavesFatal := by
  unfold Obligations.OnlyResetLeavesFatal
  intro s t hf hr hstep
  rcases step_effect hstep with rfl | ⟨level, a, rest, u, hi, e, rfl⟩
  · rfl
  · have hu := e.frozen hf (ne_reset_of_nextIsReset hi hr)
    rw [hu]
    rfl

/-- Settles O50: only the clear commands and INIT's effects take a sticky bit down; the event engine only
sets them. -/
theorem stickyBitsClearedOnlyByTheirCommands : Obligations.StickyBitsClearedOnlyByTheirCommands := by
  unfold Obligations.StickyBitsClearedOnlyByTheirCommands
  intro s t hstep hr hinit hstart
  have k := step_keeps hstep hr
  exact ⟨k.mstat hinit hstart, k.sstatRead hinit hstart, k.sstatWrite hinit hstart,
    k.ovr hinit hstart⟩

/-- Settles O51: the one writer of each register is the one agent's effect that changes it. -/
theorem operandAndAddressRegistersHaveOneWriter :
    Obligations.OperandAndAddressRegistersHaveOneWriter := by
  unfold Obligations.OperandAndAddressRegistersHaveOneWriter
  intro s t hstep hr
  have k := step_keeps hstep hr
  exact ⟨k.ptr, k.cnt, k.saddr, k.marg⟩

/-- Settles O54: both histories before a step are prefixes of those after it. -/
theorem historiesOnlyGrow : Obligations.HistoriesOnlyGrow := by
  unfold Obligations.HistoriesOnlyGrow
  intro s t hstep hr
  have k := step_keeps hstep hr
  obtain ⟨l, hl⟩ := k.actions
  obtain ⟨m, hm⟩ := k.memHist
  exact ⟨⟨l, hl.symm⟩, m, hm.symm⟩

end Sys2Proof.Machine
end

section
/-! What the core never reads (10_state R36, R42): replacing the BUS_BUSY level and CLKDIV before a step
of the event engine, or before a command that makes no bus-free check, is replacing them after it. -/

namespace Sys2Proof.Machine

/-- The state with another BUS_BUSY level and another CLKDIV. -/
def State.mapUnread (g : Bool → Bool) (k : BitVec 16 → BitVec 16) (s : State) : State :=
  { s with busBusy := g s.busBusy, clkdiv := k s.clkdiv }

/-- A result with its next state mapped. -/
def mapNext (f : State → State) : Result → Result
  | .next t => .next (f t)
  | .fault x => .fault x
  | .refused x => .refused x

/-- A branch on what a map leaves as it was: the map goes into both arms. -/
theorem ite_eq_map {α β : Type} (f : α → β) {c d : Prop} [Decidable c] [Decidable d] {x y : β}
    {u v : α} (hc : c = d) (hx : d → x = f u) (hy : ¬ d → y = f v) :
    (if c then x else y) = f (if d then u else v) := by
  rw [apply_ite f]
  exact ite_congr hc hx hy

section
variable (g : Bool → Bool) (k : BitVec 16 → BitVec 16) (s : State) (r : PortReply) (e : Snap)

@[simp] theorem mapUnread_bus : (s.mapUnread g k).bus = s.bus := rfl
@[simp] theorem mapUnread_mwr : (s.mapUnread g k).mwr = s.mwr := rfl
@[simp] theorem mapUnread_srd : (s.mapUnread g k).srd = s.srd := rfl
@[simp] theorem mapUnread_margBit : (s.mapUnread g k).margBit = s.margBit := rfl
@[simp] theorem mapUnread_portStop (a : Nat) :
    (s.mapUnread g k).portStop r a = s.portStop r a := rfl

/-! ### The memory port -/

@[simp] theorem memRead_mapUnread (a : Nat) :
    (s.mapUnread g k).memRead r a =
      (s.memRead r a).map fun x => (x.1, x.2.mapUnread g k) := by
  unfold State.memRead
  rw [mapUnread_portStop]
  cases s.portStop r a <;> rfl

@[simp] theorem memWrite_mapUnread (a : Nat) (v : Byte) :
    (s.mapUnread g k).memWrite r a v = (s.memWrite r a v).map (State.mapUnread g k) := by
  unfold State.memWrite
  rw [mapUnread_portStop]
  cases s.portStop r a <;> rfl

/-! ### The slave role -/

theorem closeChannel_mapUnread :
    (s.mapUnread g k).closeChannel = s.closeChannel.mapUnread g k := by
  unfold State.closeChannel
  rw [mapUnread_bus]
  cases s.bus <;> rfl

/-- The Stop of a snapshot, processed or not. -/
theorem closeChannel_if_mapUnread (b : Bool) :
    (if b then (s.mapUnread g k).closeChannel else s.mapUnread g k) =
      (if b then s.closeChannel else s).mapUnread g k :=
  ite_eq_map _ rfl (fun _ => closeChannel_mapUnread g k s) fun _ => rfl

theorem slaveLoad_mapUnread :
    slaveLoad r (s.mapUnread g k) = (slaveLoad r s).map (State.mapUnread g k) := by
  unfold slaveLoad
  refine ite_eq_map _ rfl (fun _ => ?_) fun _ => rfl
  rw [mapUnread_srd, memRead_mapUnread]
  cases s.memRead r s.srd.addr <;> rfl

theorem slaveReadStart_mapUnread :
    slaveReadStart r (s.mapUnread g k) = (slaveReadStart r s).map (State.mapUnread g k) := by
  unfold slaveReadStart
  exact slaveLoad_mapUnread g k
    ({ s with bus := .srd, sstat := { s.sstat with rdBusy := true } }.emit .ack) r

theorem addressMatch_mapUnread (a : Byte) :
    addressMatch r a (s.mapUnread g k) = (addressMatch r a s).map (State.mapUnread g k) := by
  unfold addressMatch
  refine ite_eq_map _ rfl (fun _ => ?_) fun _ => rfl
  cases dirPart a
  · rfl
  · exact slaveReadStart_mapUnread g k { s with data := a } r

theorem slaveWriteByte_mapUnread (b : Byte) :
    slaveWriteByte r b (s.mapUnread g k) = (slaveWriteByte r b s).map (State.mapUnread g k) := by
  unfold slaveWriteByte
  refine ite_eq_map _ rfl (fun _ => ?_) fun _ => rfl
  change (match ({ s with data := b }.mapUnread g k).memWrite r s.swr.addr b with
    | .error x => Except.error x | .ok t => Except.ok _) = _
  rw [memWrite_mapUnread]
  cases { s with data := b }.memWrite r s.swr.addr b <;> rfl

theorem slaveData_mapUnread :
    slaveData e r (s.mapUnread g k) = (slaveData e r s).map (State.mapUnread g k) := by
  unfold slaveData
  rw [mapUnread_bus]
  cases s.bus
  case srd => exact ite_eq_map _ rfl (fun _ => rfl) fun _ => slaveLoad_mapUnread g k s r
  case swd => exact slaveWriteByte_mapUnread g k s r e.rx
  all_goals rfl

theorem slaveEvent_mapUnread :
    slaveEvent e r (s.mapUnread g k) = (slaveEvent e r s).map (State.mapUnread g k) := by
  unfold slaveEvent
  refine ite_eq_map _ rfl (fun _ => rfl) fun _ => ?_
  refine ite_eq_map _ rfl (fun _ => ?address) fun _ => ?_
  case address =>
    refine ite_eq_map _ rfl (fun _ => rfl) fun _ => ?_
    dsimp only
    rw [closeChannel_if_mapUnread, closeChannel_mapUnread, addressMatch_mapUnread]
  refine ite_eq_map _ rfl (fun _ => ?data) fun _ => ?_
  case data =>
    rw [slaveData_mapUnread]
    cases slaveData e r s
    · rfl
    · exact congrArg Except.ok (closeChannel_if_mapUnread g k _ e.stop)
  refine ite_eq_map _ rfl (fun _ => rfl) fun _ => ?_
  exact ite_eq_map _ rfl (fun _ => congrArg Except.ok (closeChannel_mapUnread g k s)) fun _ => rfl

/-! ### The master role -/

theorem finishXfer_mapUnread (d : Dir) :
    (s.mapUnread g k).finishXfer d = (s.finishXfer d).mapUnread g k :=
  ite_eq_map _ rfl (fun _ => rfl) fun _ => rfl

theorem sendNext_mapUnread :
    sendNext r (s.mapUnread g k) = (sendNext r s).map (State.mapUnread g k) := by
  unfold sendNext
  refine ite_eq_map _ rfl (fun _ => ?_) fun _ => congrArg Except.ok (finishXfer_mapUnread g k s _)
  rw [mapUnread_mwr, memRead_mapUnread]
  cases s.memRead r s.mwr.addr <;> rfl

theorem addrAckRead_mapUnread : (s.mapUnread g k).addrAckRead = s.addrAckRead.mapUnread g k :=
  ite_eq_map _ rfl (fun _ => rfl) fun _ => finishXfer_mapUnread g k { s with bus := .mrd } .read

theorem addrNak_mapUnread (d : Dir) :
    (s.mapUnread g k).addrNak d = (s.addrNak d).mapUnread g k :=
  finishXfer_mapUnread g k { s with mstat := s.mstat.nakAddr } d

theorem writeNak_mapUnread : (s.mapUnread g k).writeNak = s.writeNak.mapUnread g k :=
  ite_eq_map _ rfl
    (fun _ => finishXfer_mapUnread g k { s with mstat := s.mstat.shorten } .write)
    fun _ => finishXfer_mapUnread g k s .write

theorem readArbitrate_mapUnread :
    (s.mapUnread g k).readArbitrate = s.readArbitrate.mapUnread g k :=
  ite_eq_map _ rfl (fun _ => rfl) fun _ => finishXfer_mapUnread g k (s.emit .nak) .read

theorem readByte_mapUnread (b : Byte) :
    readByte r b (s.mapUnread g k) = (readByte r b s).map (State.mapUnread g k) := by
  unfold readByte
  refine ite_eq_map _ rfl (fun _ => rfl) fun _ => ?_
  change (match ({ s with data := b }.mapUnread g k).memWrite r s.mrd.addr b with
    | .error x => Except.error x | .ok t => Except.ok _) = _
  rw [memWrite_mapUnread]
  cases { s with data := b }.memWrite r s.mrd.addr b with
  | error x => rfl
  | ok t => exact congrArg Except.ok (readArbitrate_mapUnread g k (t.bumpIdx .mrd))

theorem masterByte_mapUnread :
    masterByte e r (s.mapUnread g k) = (masterByte e r s).map (State.mapUnread g k) := by
  unfold masterByte
  refine ite_eq_map _ rfl (fun _ => rfl) fun _ => ?_
  rw [mapUnread_bus]
  cases s.bus
  case mwa =>
    exact ite_eq_map _ rfl (fun _ => congrArg Except.ok (addrNak_mapUnread g k s .write))
      fun _ => sendNext_mapUnread g k { s with bus := .mwd } r
  case mra =>
    exact congrArg Except.ok (ite_eq_map _ rfl (fun _ => addrNak_mapUnread g k s .read)
      fun _ => addrAckRead_mapUnread g k s)
  case mwd =>
    exact ite_eq_map _ rfl (fun _ => congrArg Except.ok (writeNak_mapUnread g k s))
      fun _ => sendNext_mapUnread g k s r
  case mrd => exact readByte_mapUnread g k s r e.rx
  all_goals rfl

theorem matchAfterLoss_mapUnread :
    matchAfterLoss e r (s.mapUnread g k) = (matchAfterLoss e r s).map (State.mapUnread g k) :=
  ite_eq_map _ rfl (fun _ => addressMatch_mapUnread g k s r e.rx) fun _ => rfl

/-- The RELEASE of a lost bus, emitted or not. -/
theorem release_if_mapUnread (b : Bool) :
    (if b then (s.mapUnread g k).emit .release else s.mapUnread g k) =
      (if b then s.emit .release else s).mapUnread g k :=
  ite_eq_map _ rfl (fun _ => rfl) fun _ => rfl

theorem arbEvent_mapUnread :
    arbEvent e r (s.mapUnread g k) = (arbEvent e r s).map (State.mapUnread g k) := by
  unfold arbEvent
  refine ite_eq_map _ rfl (fun _ => rfl) fun _ => ?_
  refine ite_eq_map _ rfl (fun _ => rfl) fun _ => ?_
  dsimp only
  rw [release_if_mapUnread]
  exact matchAfterLoss_mapUnread g k { (if e.lostArb then s.emit .release else s) with
    mstat := s.mstat.loseBus e.lostArb, stopIe := false, bus := .idle } r e

theorem masterEvent_mapUnread :
    masterEvent e r (s.mapUnread g k) = (masterEvent e r s).map (State.mapUnread g k) := by
  have hbyte : (if e.bc then masterByte e r (s.mapUnread g k) else .ok (s.mapUnread g k)) =
      (if e.bc then masterByte e r s else .ok s).map (State.mapUnread g k) :=
    ite_eq_map _ rfl (fun _ => masterByte_mapUnread g k s r e) fun _ => rfl
  unfold masterEvent
  refine ite_eq_map _ rfl (fun _ => arbEvent_mapUnread g k s r e) fun _ => ?_
  refine ite_eq_map _ rfl (fun _ => rfl) fun _ => ?_
  rw [hbyte]
  cases if e.bc then masterByte e r s else .ok s with
  | error x => rfl
  | ok t => exact congrArg Except.ok (ite_eq_map _ rfl (fun _ => rfl) fun _ => rfl)

/-! ### Pending manual commands -/

theorem addrWait_mapUnread (nak : Bool) :
    (s.mapUnread g k).addrWait nak = (s.addrWait nak).mapUnread g k :=
  ite_eq_map _ rfl (fun _ => rfl) fun _ => rfl

theorem writeWait_mapUnread (nak : Bool) :
    (s.mapUnread g k).writeWait nak = (s.writeWait nak).mapUnread g k :=
  ite_eq_map _ rfl (fun _ => rfl) fun _ => rfl

theorem readWait_mapUnread (b : Byte) :
    (s.mapUnread g k).readWait b = (s.readWait b).mapUnread g k := by
  unfold State.readWait
  dsimp only
  rw [mapUnread_margBit]
  cases s.margBit <;> rfl

theorem byteWait_mapUnread : (s.mapUnread g k).byteWait e = (s.byteWait e).mapUnread g k :=
  ite_eq_map _ rfl (fun _ => addrWait_mapUnread g k s e.nak) fun _ =>
    ite_eq_map _ rfl (fun _ => writeWait_mapUnread g k s e.nak) fun _ =>
      ite_eq_map _ rfl (fun _ => readWait_mapUnread g k s e.rx) fun _ => rfl

theorem manualArb_mapUnread :
    manualArb e r (s.mapUnread g k) = (manualArb e r s).map (State.mapUnread g k) := by
  unfold manualArb
  refine ite_eq_map _ rfl (fun _ => rfl) fun _ => ?_
  dsimp only
  rw [release_if_mapUnread]
  exact matchAfterLoss_mapUnread g k
    ({ (if e.lostArb then s.emit .release else s) with bus := .idle }.complete
      (if e.lostArb then .arbLost else .startAborted)) r e

theorem manualWait_mapUnread :
    manualWait e r (s.mapUnread g k) = (manualWait e r s).map (State.mapUnread g k) := by
  unfold manualWait
  refine ite_eq_map _ rfl (fun _ => manualArb_mapUnread g k s r e) fun _ => ?_
  refine ite_eq_map _ rfl (fun _ => rfl) fun _ => ?_
  refine ite_eq_map _ rfl (fun _ => ite_eq_map _ rfl (fun _ => rfl) fun _ => rfl) fun _ => ?_
  refine ite_eq_map _ rfl (fun _ => rfl) fun _ => ?_
  dsimp only
  rw [byteWait_mapUnread]
  exact ite_eq_map _ rfl (fun _ => ite_eq_map _ rfl (fun _ => rfl) fun _ => rfl) fun _ => rfl

/-! ### The step of the event engine -/

theorem timeoutRecover_mapUnread :
    (s.mapUnread g k).timeoutRecover = s.timeoutRecover.mapUnread g k :=
  ite_eq_map _ rfl (fun _ => rfl) fun _ => rfl

theorem handle_mapUnread :
    handle e r (s.mapUnread g k) = (handle e r s).map (State.mapUnread g k) := by
  unfold handle
  refine ite_eq_map _ rfl (fun _ => congrArg Except.ok (timeoutRecover_mapUnread g k s)) fun _ => ?_
  refine ite_eq_map _ rfl (fun _ => rfl) fun _ => ?_
  refine ite_eq_map _ rfl (fun _ => manualWait_mapUnread g k s r e) fun _ => ?_
  exact ite_eq_map _ rfl (fun _ => masterEvent_mapUnread g k s r e)
    fun _ => slaveEvent_mapUnread g k s r e

theorem takeDesync_mapUnread : (s.mapUnread g k).takeDesync = s.takeDesync.mapUnread g k :=
  ite_eq_map _ rfl (fun _ => rfl) fun _ => rfl

theorem closeStep_mapUnread (x : Except Abort State) :
    closeStep (s.mapUnread g k) (x.map (State.mapUnread g k)) =
      mapNext (State.mapUnread g k) (closeStep s x) := by
  rcases x with (_ | _ | _) | t
  · exact congrArg Host.Outcome.next (takeDesync_mapUnread g k s)
  all_goals rfl

theorem eventStep_mapUnread (w : SnapWord) :
    eventStep w r (s.mapUnread g k) = mapNext (State.mapUnread g k) (eventStep w r s) := by
  refine ite_eq_map _ rfl (fun _ => ?_) fun _ => rfl
  rw [handle_mapUnread]
  exact closeStep_mapUnread g k s _

end
end Sys2Proof.Machine
end

section
/-! The commands under another BUS_BUSY level and another CLKDIV, and the statements on what the core never
reads (10_state R36, R42). -/

namespace Sys2Proof.Machine

section
variable (g : Bool → Bool) (k : BitVec 16 → BitVec 16) (s : State)

theorem armed_mapUnread (d : Dir) (a7 : Addr7) (m : TransferMode) :
    (s.mapUnread g k).armed d a7 m = (s.armed d a7 m).mapUnread g k := by
  rw [armed_eq_armedWith, armed_eq_armedWith, mapUnread_bus]
  cases d <;> rfl

/-- With the level as it is, the checks of `buf_arm` are as they are. -/
theorem bufArm_mapUnread (d : Dir) (a7 : Addr7) (m : TransferMode) :
    bufArm d a7 m (s.mapUnread id k) = (bufArm d a7 m s).mapUnread id k := by
  unfold bufArm
  rw [show bufArmRefusal m (s.mapUnread id k) = bufArmRefusal m s from rfl]
  cases bufArmRefusal m s with
  | some c => rfl
  | none => exact congrArg (State.finish · .noError) (armed_mapUnread id k s d a7 m)

theorem execMasterSendStart_mapUnread (a7 : Addr7) (rw : Dir) :
    execMasterSendStart a7 rw (s.mapUnread id k) =
      mapNext (State.mapUnread id k) (execMasterSendStart a7 rw s) :=
  ite_eq_map _ rfl (fun _ => rfl) fun _ => ite_eq_map _ rfl (fun _ => rfl) fun _ =>
    ite_eq_map _ rfl (fun _ => rfl) fun _ => rfl

theorem execMasterSendRestart_mapUnread (a7 : Addr7) (rw : Dir) :
    execMasterSendRestart a7 rw (s.mapUnread g k) =
      mapNext (State.mapUnread g k) (execMasterSendRestart a7 rw s) :=
  ite_eq_map _ rfl (fun _ => rfl) fun _ => ite_eq_map _ rfl (fun _ => rfl) fun _ => rfl

theorem execMasterSendStop_mapUnread :
    execMasterSendStop (s.mapUnread g k) =
      mapNext (State.mapUnread g k) (execMasterSendStop s) :=
  ite_eq_map _ rfl (fun _ => rfl) fun _ => ite_eq_map _ rfl (fun _ => rfl) fun _ => rfl

theorem execMasterWriteByte_mapUnread (d8 : Byte) :
    execMasterWriteByte d8 (s.mapUnread g k) =
      mapNext (State.mapUnread g k) (execMasterWriteByte d8 s) :=
  ite_eq_map _ rfl (fun _ => rfl) fun _ => ite_eq_map _ rfl (fun _ => rfl) fun _ => rfl

theorem execMasterReadByte_mapUnread (ack : Bool) :
    execMasterReadByte ack (s.mapUnread g k) =
      mapNext (State.mapUnread g k) (execMasterReadByte ack s) :=
  ite_eq_map _ rfl (fun _ => rfl) fun _ => ite_eq_map _ rfl (fun _ => rfl) fun _ => rfl

theorem install_mapUnread (b : BufId) :
    (s.mapUnread g k).install b = (s.install b).mapUnread g k :=
  ite_eq_map _ rfl (fun _ => rfl) fun _ => by cases b <;> rfl

theorem execStop_mapUnread :
    execStop (s.mapUnread g k) = mapNext (State.mapUnread g k) (execStop s) := by
  unfold execStop
  rw [mapUnread_bus, release_if_mapUnread]
  rfl

/-- INIT's effects write CLKDIV, whatever it held. -/
theorem execInit_mapUnread :
    ∃ l, (l = k ∨ l = id) ∧
      execInit (s.mapUnread g k) = mapNext (State.mapUnread g l) (execInit s) := by
  unfold execInit
  by_cases hen : s.en = true
  · exact ⟨k, .inl rfl, ite_eq_map _ rfl (fun _ => rfl) fun h => absurd hen h⟩
  · exact ⟨id, .inr rfl, ite_eq_map _ rfl (fun h => absurd h hen) fun _ => rfl⟩

theorem execStart_mapUnread :
    ∃ l, (l = k ∨ l = id) ∧
      execStart (s.mapUnread g k) = mapNext (State.mapUnread g l) (execStart s) := by
  unfold execStart
  by_cases h : (!s.inited && !s.en) = true
  · have h' : (!(s.mapUnread g k).inited && !(s.mapUnread g k).en) = true := h
    rw [if_pos h, if_pos h']
    exact ⟨id, .inr rfl, rfl⟩
  · have h' : ¬ (!(s.mapUnread g k).inited && !(s.mapUnread g k).en) = true := h
    rw [if_neg h, if_neg h']
    exact ⟨k, .inl rfl, rfl⟩

/-- A command under another level and another CLKDIV: the same, but for CLKDIV where INIT's effects write
it. The bus-free checks need the level as it is. -/
theorem exec_mapUnread (i : Instr)
    (hg : (∃ a7 m, i = .masterWriteBuf a7 m ∨ i = .masterReadBuf a7 m) ∨
      (∃ a7 rw, i = .masterSendStart a7 rw) → g = id) :
    ∃ l, (l = k ∨ l = id) ∧ exec i (s.mapUnread g k) = mapNext (State.mapUnread g l) (exec i s) := by
  cases i
  case init => exact execInit_mapUnread g k s
  case start => exact execStart_mapUnread g k s
  all_goals refine ⟨k, .inl rfl, ?_⟩
  case stop => exact execStop_mapUnread g k s
  case masterWriteBuf a7 m =>
    obtain rfl := hg (.inl ⟨a7, m, .inl rfl⟩)
    exact congrArg Host.Outcome.next (bufArm_mapUnread k s .write a7 m)
  case masterReadBuf a7 m =>
    obtain rfl := hg (.inl ⟨a7, m, .inr rfl⟩)
    exact congrArg Host.Outcome.next (bufArm_mapUnread k s .read a7 m)
  case masterSendStart a7 rw =>
    obtain rfl := hg (.inr ⟨a7, rw, rfl⟩)
    exact execMasterSendStart_mapUnread k s a7 rw
  case masterSendRestart a7 rw => exact execMasterSendRestart_mapUnread g k s a7 rw
  case masterSendStop => exact execMasterSendStop_mapUnread g k s
  case masterWriteByte d8 => exact execMasterWriteByte_mapUnread g k s d8
  case masterReadByte ack => exact execMasterReadByte_mapUnread g k s ack
  case slaveInitReadBuf => exact congrArg Host.Outcome.next (install_mapUnread g k s .srd)
  case slaveInitWriteBuf => exact congrArg Host.Outcome.next (install_mapUnread g k s .swr)
  all_goals rfl

end

/-- Settles O52: with CLKDIV as it is and the level replaced, a command without a bus-free check and an
event step give the same result with the level replaced. -/
theorem busBusyIsReadByThreeCommandsOnly : Obligations.BusBusyIsReadByThreeCommandsOnly := by
  unfold Obligations.BusBusyIsReadByThreeCommandsOnly
  refine ⟨fun i s t b hwrite hread hstart h => ?_, fun w r s t b h => ?_⟩
  · obtain ⟨l, hl, hi⟩ := exec_mapUnread (fun _ => b) id s i <| by
      rintro (⟨a7, m, rfl | rfl⟩ | ⟨a7, rw, rfl⟩)
      · exact absurd rfl (hwrite a7 m)
      · exact absurd rfl (hread a7 m)
      · exact absurd rfl (hstart a7 rw)
    obtain rfl : l = id := by simpa using hl
    rw [h] at hi
    exact hi
  · have hw := eventStep_mapUnread (fun _ => b) id s r w
    rw [h] at hw
    exact hw

/-- Settles O53: with the level as it is and CLKDIV replaced, a command and an event step give the same
result but for CLKDIV. -/
theorem clkdivIsNeverRead : Obligations.ClkdivIsNeverRead := by
  unfold Obligations.ClkdivIsNeverRead
  refine ⟨fun i s t v h => ?_, fun w r s t v h => ?_⟩
  · obtain ⟨l, -, hi⟩ := exec_mapUnread id (fun _ => v) s i fun _ => rfl
    rw [h] at hi
    exact ⟨l t.clkdiv, hi⟩
  · have hw := eventStep_mapUnread id (fun _ => v) s r w
    rw [h] at hw
    exact hw

end Sys2Proof.Machine
end

section
/-! The CSR window (10_state R21 to R29, R37 to R43, 20_memory R64): the words a host reads as sums of their
fields, the offset of a host access, and what host reads and writes do. -/

namespace Sys2Proof.Machine

/-! ### Words as sums of fields -/

/-- A concatenation as a number. -/
theorem toNat_append_eq_add {n m : Nat} (x : BitVec n) (y : BitVec m) :
    (x ++ y).toNat = x.toNat * 2 ^ m + y.toNat := by
  rw [BitVec.toNat_append, ← Nat.shiftLeft_add_eq_or_of_lt y.isLt, Nat.shiftLeft_eq]

theorem cmdStat_toWord_toNat (c : CmdStat) :
    c.toWord.toNat = c.busy.toNat + 2 ^ 1 * c.ovr.toNat + 2 ^ 2 * c.wstop.toNat +
      2 ^ 8 * c.code.toByte.toNat + 2 ^ 16 * c.lastop.toNat := by
  simp only [CmdStat.toWord, toNat_append_eq_add, BitVec.toNat_ofBool, BitVec.toNat_ofNat]
  omega

theorem stateWord_toNat (s : State) :
    s.stateWord.toNat = s.bus.code.toNat + 2 ^ 8 * s.en.toNat + 2 ^ 9 * s.stopIe.toNat +
      2 ^ 10 * s.inited.toNat + 2 ^ 11 * s.fatal.toNat + 2 ^ 12 * s.desync.toNat +
      2 ^ 16 * s.busBusy.toNat := by
  simp only [State.stateWord, toNat_append_eq_add, BitVec.toNat_ofBool, BitVec.toNat_ofNat]
  omega

theorem mstat_toByte_toNat (m : MStat) :
    m.toByte.toNat = m.rdCmplt.toNat + 2 ^ 1 * m.wrCmplt.toNat + 2 ^ 2 * m.xferInp.toNat +
      2 ^ 3 * m.xferHalt.toNat + 2 ^ 4 * m.errShortXfer.toNat + 2 ^ 5 * m.errAddrNak.toNat +
      2 ^ 6 * m.errArbLost.toNat + 2 ^ 7 * m.errXfer.toNat := by
  simp only [MStat.toByte, toNat_append_eq_add, BitVec.toNat_ofBool]
  omega

theorem sstat_toByte_toNat (m : SStat) :
    m.toByte.toNat = m.rdCmplt.toNat + 2 ^ 1 * m.rdBusy.toNat + 2 ^ 2 * m.rdOvfl.toNat +
      2 ^ 4 * m.wrCmplt.toNat + 2 ^ 5 * m.wrBusy.toNat + 2 ^ 6 * m.wrOvfl.toNat := by
  simp only [SStat.toByte, toNat_append_eq_add, BitVec.toNat_ofBool, BitVec.toNat_ofNat]
  omega

theorem mmode_toWord_toNat (m : MMode) :
    m.toWord.toNat = m.mode.repeatStart.toNat + 2 ^ 1 * m.mode.noStop.toNat +
      2 ^ 8 * m.dir.bit.toNat + 2 ^ 16 * m.addr.toNat := by
  simp only [MMode.toWord, toNat_append_eq_add, BitVec.toNat_ofBool, BitVec.toNat_ofNat]
  omega

/-- A register narrower than the word reads as its own value. -/
theorem toNat_setWidth_word {n : Nat} (h : n ≤ 32) (x : BitVec n) :
    (x.setWidth 32).toNat = x.toNat :=
  BitVec.toNat_setWidth_of_le h

theorem readCsr_reserved (s : State) {off : Nat} (h : 0x60 ≤ off) : readCsr s off = 0 := by
  unfold readCsr
  split
  case h_24 => rfl
  all_goals omega

/-! ### The widths (10_state R27, R28, R43; under the invariant) -/

theorem idx_lt_of_inv {s : State} (h : s.Inv) (b : BufId) :
    (s.buf b).idx.toNat < 2 ^ s.cfg.cntW :=
  Nat.lt_of_le_of_lt (h.idxLeCap b) (h.bufCapWidth b)

theorem pointers_read_in_width {s : State} (h : s.Inv) :
    ∀ off ∈ [0x0C, 0x30, 0x3C, 0x48, 0x54], (readCsr s off).toNat < 2 ^ s.cfg.aw := by
  simp only [List.forall_mem_cons]
  exact ⟨h.ptrWidth, h.bufPtrWidth .mrd, h.bufPtrWidth .mwr, h.bufPtrWidth .srd, h.bufPtrWidth .swr,
    nofun⟩

theorem counts_read_in_width {s : State} (h : s.Inv) :
    ∀ off ∈ [0x10, 0x34, 0x38, 0x40, 0x44, 0x4C, 0x50, 0x58, 0x5C],
      (readCsr s off).toNat < 2 ^ s.cfg.cntW := by
  simp only [List.forall_mem_cons, readCsr, toNat_setWidth_word (by decide : 16 ≤ 32)]
  exact ⟨h.cntWidth, h.bufCapWidth .mrd, idx_lt_of_inv h .mrd, h.bufCapWidth .mwr,
    idx_lt_of_inv h .mwr, h.bufCapWidth .srd, idx_lt_of_inv h .srd, h.bufCapWidth .swr,
    idx_lt_of_inv h .swr, nofun⟩

/-- Settles O22: each register's word is the sum of its fields at their places. -/
theorem csrFieldLayout : Obligations.CsrFieldLayout := by
  unfold Obligations.CsrFieldLayout
  intro s code bus dir
  have hcode : s.cmdstat.code.toByte.toNat = code := by
    simp only [code]
    cases s.cmdstat.code <;> rfl
  have hbus : s.bus.code.toNat = bus := by
    simp only [bus]
    cases s.bus <;> rfl
  have hdir : s.mmode.dir.bit.toNat = dir := by
    simp only [dir]
    cases s.mmode.dir <;> rfl
  have hdesc (d : Desc) (off : Nat) (hp : readCsr s off = d.ptr)
      (hc : readCsr s (off + 4) = d.cap.setWidth 32) (hi : readCsr s (off + 8) = d.idx.setWidth 32) :
      readCsr s off = d.ptr ∧ (readCsr s (off + 4)).toNat = d.cap.toNat ∧
        (readCsr s (off + 8)).toNat = d.idx.toNat :=
    ⟨hp, hc ▸ toNat_setWidth_word (by decide) _, hi ▸ toNat_setWidth_word (by decide) _⟩
  refine ⟨hcode ▸ cmdStat_toWord_toNat _, rfl, rfl, toNat_setWidth_word (by decide) _,
    hbus ▸ stateWord_toNat _, (toNat_setWidth_word (by decide) _).trans (mstat_toByte_toNat _),
    (toNat_setWidth_word (by decide) _).trans (sstat_toByte_toNat _),
    toNat_setWidth_word (by decide) _, hdir ▸ mmode_toWord_toNat _,
    toNat_setWidth_word (by decide) _, toNat_setWidth_word (by decide) _,
    hdesc s.mrd 0x30 rfl rfl rfl, hdesc s.mwr 0x3C rfl rfl rfl, hdesc s.srd 0x48 rfl rfl rfl,
    hdesc s.swr 0x54 rfl rfl rfl, rfl, fun _ => readCsr_reserved s,
    fun h => ⟨pointers_read_in_width h, counts_read_in_width h⟩⟩

/-! ### The offset of an access -/

/-- CSR_BASE + 4k is the window offset 4k, where the window does not run past the top (log 28). -/
theorem csrOffset_word {c : Config} {k : Nat} (hk : k < 64) (hc : c.csrBase.toNat + 256 ≤ 2 ^ 32) :
    csrOffset c (c.csrBase + BitVec.ofNat 32 (4 * k)) .bits32 = .ok (4 * k) := by
  have haddr : (c.csrBase + BitVec.ofNat 32 (4 * k)).toNat = c.csrBase.toNat + 4 * k := by
    rw [BitVec.toNat_add, BitVec.toNat_ofNat]
    omega
  have hin : ¬ (c.csrBase.toNat + 4 * k < c.csrBase.toNat ∨
      c.csrBase.toNat + 256 ≤ c.csrBase.toNat + 4 * k) := by omega
  simp only [csrOffset, haddr, if_neg hin, Nat.add_sub_cancel_left]
  rw [if_pos (by omega)]

/-- A narrow or unaligned access inside the window is undefined (20_memory R64). -/
theorem csrOffset_undefined {c : Config} {addr : Word} {k : AccessWidth}
    (hlo : c.csrBase.toNat ≤ addr.toNat) (hhi : addr.toNat < c.csrBase.toNat + 256)
    (h : k ≠ .bits32 ∨ (addr.toNat - c.csrBase.toNat) % 4 ≠ 0) :
    csrOffset c addr k = .error .undefinedCsrAccess := by
  have hin : ¬ (addr.toNat < c.csrBase.toNat ∨ c.csrBase.toNat + 256 ≤ addr.toNat) := by omega
  unfold csrOffset
  rw [if_neg hin]
  cases k
  case bits32 => exact if_neg (h.resolve_left (fun h => h rfl))
  all_goals rfl

theorem hostWrite_of_offset {s : State} {addr : Word} {k : AccessWidth} {off : Nat}
    (h : csrOffset s.cfg addr k = .ok off) (v : Word) :
    hostWrite addr k v s = writeCsr off v s := by
  simp only [hostWrite, h]

theorem hostRead_of_offset {s : State} {addr : Word} {k : AccessWidth} {off : Nat}
    (h : csrOffset s.cfg addr k = .ok off) :
    hostRead addr k s = .next { s with hostData := readCsr s off } := by
  simp only [hostRead, h]

/-! ### Truncation (10_state R23) -/

theorem truncPtr_toNat (c : Config) (v : Word) : (truncPtr c v).toNat = v.toNat % 2 ^ c.aw := by
  have hle : v.toNat % 2 ^ c.aw ≤ v.toNat := Nat.mod_le ..
  rw [truncPtr, BitVec.toNat_ofNat]
  exact Nat.mod_eq_of_lt (Nat.lt_of_le_of_lt hle v.isLt)

theorem truncCnt_toNat {c : Config} (h : c.cntW ≤ 16) (v : Word) :
    (truncCnt c v).toNat = v.toNat % 2 ^ c.cntW := by
  rw [truncCnt, BitVec.toNat_ofNat]
  exact Nat.mod_eq_of_lt
    (Nat.lt_of_lt_of_le (Nat.mod_lt _ (Nat.two_pow_pos _)) (Nat.pow_le_pow_right (by decide) h))

theorem cntW_le_of_wf {c : Config} (h : c.wf = true) : c.cntW ≤ 16 := by
  simp only [Config.wf, Bool.and_eq_true, decide_eq_true_eq] at h
  obtain ⟨⟨-, hle⟩, -⟩ := h
  exact hle

section
variable {s : State} (v : Word) (hf : s.fatal = false)
include hf

theorem writeCsr_ptr : writeCsr 0x0C v s = .next { s with ptr := truncPtr s.cfg v } := by
  simp [writeCsr, hf]

theorem writeCsr_cnt : writeCsr 0x10 v s = .next { s with cnt := truncCnt s.cfg v } := by
  simp [writeCsr, hf]

theorem writeCsr_clkdiv : writeCsr 0x2C v s = .next { s with clkdiv := v.setWidth 16 } := by
  simp [writeCsr, hf]

end

/-- A write to any other register is ignored. -/
theorem writeCsr_ignored {off : Nat} (v : Word) (s : State) (hcmd : off ≠ 0x00) (hptr : off ≠ 0x0C)
    (hcnt : off ≠ 0x10) (hclk : off ≠ 0x2C) : writeCsr off v s = .next s := by
  rcases writeCsr_cases off v s with ⟨h, -⟩ | ⟨h, -⟩ | ⟨h, -⟩ | ⟨h, -⟩ | ⟨-, -, h⟩
  · exact absurd h hcmd
  · exact absurd h hptr
  · exact absurd h hcnt
  · exact absurd h hclk
  · exact h

/-- Settles O23: the window offset reaches the register, and each writable register keeps its low bits. -/
theorem csrWritesKeepDefinedBits : Obligations.CsrWritesKeepDefinedBits := by
  unfold Obligations.CsrWritesKeepDefinedBits
  refine ⟨?window, fun s v => writeCsr_cmd v s, fun s v off => writeCsr_fatal off v s, ?registers⟩
  case window => exact fun s v k hk hc => hostWrite_of_offset (csrOffset_word hk hc) v
  case registers =>
    intro s v off hwf hf
    refine ⟨⟨_, writeCsr_ptr v hf, truncPtr_toNat s.cfg v, rfl⟩, ⟨_, writeCsr_cnt v hf, ?cnt, rfl⟩,
      ⟨_, writeCsr_clkdiv v hf, ?clkdiv, rfl⟩, writeCsr_ignored v s⟩
    case cnt =>
      exact (toNat_setWidth_word (by decide) _).trans (truncCnt_toNat (cntW_le_of_wf hwf) v)
    case clkdiv => exact (toNat_setWidth_word (by decide) _).trans (BitVec.toNat_setWidth ..)

/-- Settles O24: an aligned word read hands its register to the host, and the offset of any other access in
the window is undefined. -/
theorem hostReadsChangeNothing : Obligations.HostReadsChangeNothing := by
  unfold Obligations.HostReadsChangeNothing
  refine ⟨fun s k hk hc => hostRead_of_offset (csrOffset_word hk hc), fun s addr k v hlo hhi h => ?_⟩
  have hoff := csrOffset_undefined hlo hhi h
  constructor
  · simp only [hostRead, hoff]
  · simp only [hostWrite, hoff]

/-! ### Command issue and reset -/

theorem cmdWrite_of_decoded {s : State} {w : Word} {i : Instr} (hf : s.fatal = false)
    (hy : s.cmdstat.busy = false) (hd : decode s.cfg w = .ok i) :
    cmdWrite w s = exec i (s.recordOp w) := by
  simp [cmdWrite, hf, hy, hd]

/-- The host write that issues a command word (10_state R24). -/
theorem hostWrite_cmd (s : State) (w : Word) :
    hostWrite s.cfg.csrBase .bits32 w s = cmdWrite w s :=
  (hostWrite_of_offset (csrOffset_cmd s.cfg) w).trans (writeCsr_cmd w s)

/-- A step that takes an accepted CMD write executes its command, LASTOP recorded. -/
theorem step_of_command {s : State} {level : Bool} {w : Word} {rest : List Input} {i : Instr}
    (hi : s.inputs = ⟨level, .csrWrite s.cfg.csrBase .bits32 w⟩ :: rest) (hf : s.fatal = false)
    (hy : s.cmdstat.busy = false) (hd : decode s.cfg w = .ok i) :
    step s = settle (exec i
      ((s.takeInput ⟨level, .csrWrite s.cfg.csrBase .bits32 w⟩ rest).recordOp w)) := by
  rw [step_of_inputs_cons hi]
  exact congrArg settle ((hostWrite_cmd (State.takeInput s _ rest) w).trans
    (cmdWrite_of_decoded hf hy hd))

/-- Settles O6: the two ways a command word becomes the next input. -/
theorem stepRunsTheDecodedCommand : Obligations.StepRunsTheDecodedCommand := by
  unfold Obligations.StepRunsTheDecodedCommand
  refine ⟨fun s level w rest i hi hf hy hd => step_of_command hi hf hy hd,
    fun s w i hf hy hd => ?_⟩
  have hw : BitVec.ofNat 32 (w.toNat % 2 ^ 32) = w := by
    rw [Nat.mod_eq_of_lt w.isLt, BitVec.ofNat_toNat, BitVec.setWidth_eq]
  have hi : (s.withFetchWord 32 w.toNat).inputs =
      ⟨s.busBusy, .csrWrite s.cfg.csrBase .bits32 w⟩ :: s.inputs := by
    simp only [State.withFetchWord, cmdInput, hw]
  exact step_of_command hi hf hy hd

/-- Settles O25: the reset input leaves the reset values of R47, with memory kept. -/
theorem resetLeavesTheResetValues : Obligations.ResetLeavesTheResetValues := by
  unfold Obligations.ResetLeavesTheResetValues
  intro s level rest hi
  have hbuf (b : BufId) : ((s.takeInput ⟨level, .reset⟩ rest).hardReset.dropSettledRaces).buf b =
      ⟨0, 0, 0⟩ := by cases b <;> rfl
  have hmstat : MStat.zero.toByte.setWidth 32 = 0 := by decide
  have hsstat : SStat.zero.toByte.setWidth 32 = 0 := by decide
  have hmmode : MMode.toWord ⟨⟨false, false⟩, .write, 0⟩ = 0 := by decide
  have hcmdstat : CmdStat.toWord ⟨false, false, false, .noError, 0⟩ = 0 := by decide
  exact ⟨_, step_of_inputs_cons hi, rfl, rfl, rfl, rfl, rfl, rfl, hmstat, hsstat, rfl, hmmode, rfl, rfl,
    hbuf, rfl, rfl, hcmdstat, rfl, rfl, rfl, rfl, rfl⟩

end Sys2Proof.Machine
end

section
/-! The byte waits of a pending manual command (42_master_manual R199, R200). -/

namespace Sys2Proof.Machine

section
variable {s : State}

/-- A plain data byte reaches the byte wait of the pending command (40 R103, 42 R196). -/
theorem eventStepOn_pendingByte {e : Snap} {r : PortReply} (hs : s.awaiting) (he : e.dataByte)
    (hw : s.cmdstat.wstop = false) : eventStepOn e r s = .next (s.byteWait e) := by
  obtain ⟨hen, hfatal, hdesync, hbusy⟩ := hs
  obtain ⟨⟨htimeout, hlost, habort⟩, hbc, hsaddr, hstop⟩ := he
  have hdeliver : s.deliverable e = true := by simp [State.deliverable, hen, hfatal, hbc]
  have hwait : manualWait e r s = .ok (s.byteWait e) := by
    simp [manualWait, hlost, habort, hsaddr, hw, hbc, hstop]
  have hhandle : handle e r s = .ok (s.byteWait e) := by
    simp [handle, htimeout, hdesync, hbusy, hwait]
  rw [eventStepOn, if_pos hdeliver, hhandle]
  rfl

theorem byteWait_writeByte (h : s.cmdstat.lastop = 0x15) (e : Snap) :
    s.byteWait e = s.writeWait e.nak := by
  simp [State.byteWait, State.pendingAddress, h, opSendStart, opSendRestart, opWriteByte]

theorem byteWait_readByte (h : s.cmdstat.lastop = 0x16) (e : Snap) :
    s.byteWait e = s.readWait e.rx := by
  simp [State.byteWait, State.pendingAddress, h, opSendStart, opSendRestart, opWriteByte, opReadByte]

/-- Completing writes WSTOP to 0, where it is already. -/
theorem complete_of_wstop_false (hw : s.cmdstat.wstop = false) (c : ResultCode) :
    s.complete c = { s with cmdstat := { s.cmdstat with busy := false, code := c } } := by
  simp [State.complete, hw]

theorem writeWait_eq (hb : s.bus = .mwd) (hw : s.cmdstat.wstop = false) (nak : Bool) :
    s.writeWait nak = { s with
      bus := if nak = true then .mh else .mwd
      cmdstat := { s.cmdstat with
        busy := false, code := if nak = true then .lbNak else .noError } } := by
  cases nak
  · have h := complete_of_wstop_false hw .noError
    simpa [State.writeWait, ← hb] using h
  · exact complete_of_wstop_false (s := { s with bus := .mh }) hw .lbNak

theorem readWait_eq (hy : s.cmdstat.busy = true) (hb : s.bus = .mrd) (hw : s.cmdstat.wstop = false)
    (b : Byte) :
    s.readWait b = { s with
      data := b
      rdata := b.setWidth 32
      bus := if s.marg = true then .mrd else .mh
      actions := s.actions ++ [if s.marg = true then .ack else .nak]
      cmdstat := { s.cmdstat with busy := false, code := .noError } } := by
  cases hm : s.marg
  · simp [State.readWait, State.margBit, hy, hm, complete_of_wstop_false, hw, State.emit]
  · simp [State.readWait, State.margBit, hy, hm, complete_of_wstop_false, hw, State.emit, hb]

end

/-- Settles O44: the byte wait that LASTOP names completes the command as the acknowledge bit says. -/
theorem manualByteWaits : Obligations.ManualByteWaits := by
  unfold Obligations.ManualByteWaits
  intro s e r hs he hw
  have ⟨_, _, _, hbusy⟩ := hs
  rw [eventStepOn_pendingByte hs he hw]
  refine ⟨fun hop hb => ?_, fun hop hb => ?_⟩
  · rw [byteWait_writeByte hop, writeWait_eq hb hw]
  · rw [byteWait_readByte hop, readWait_eq hbusy hb hw]

end Sys2Proof.Machine
end

section
/-! Commands and buffer memory (20_memory R61), and the host's own path to it with its races against the
engine (20_memory R70, 93 I9). -/

namespace Sys2Proof.Machine

/-! ### Commands -/

theorem CommandEffect.mem_memHist {s t : State} {i : Instr} (e : CommandEffect s i t) :
    t.mem = s.mem ∧ t.memHist = s.memHist := by
  cases e
  case clearIdx b => exact ⟨setIdx_mem s b 0, setIdx_memHist s b 0⟩
  case install b _ => exact ⟨setBuf_mem s b _, setBuf_memHist s b _⟩
  all_goals exact ⟨rfl, rfl⟩

/-- Settles O48: no effect of a command writes memory or its history. -/
theorem commandsNeverAccessMemory : Obligations.CommandsNeverAccessMemory := by
  unfold Obligations.CommandsNeverAccessMemory
  intro i s t h
  obtain ⟨hmem, hhist⟩ := (exec_effect h).mem_memHist
  exact ⟨fun a => by rw [hmem], hmem, hhist⟩

/-! ### Races -/

section
variable {s t : State}

theorem mem_raceAlts {a : Nat} {v : Byte} : v ∈ s.raceAlts a ↔ (a, v) ∈ s.races := by
  simp [State.raceAlts]

/-- Races recorded at other addresses leave those at an address as they were. -/
theorem raceAlts_of_races_append {l : List Host.Cell} {b : Nat} (h : t.races = l ++ s.races)
    (hl : ∀ c ∈ l, c.1 ≠ b) : t.raceAlts b = s.raceAlts b := by
  have hnone : l.filter (fun c => decide (c.1 = b)) = [] := by simpa using hl
  simp only [State.raceAlts, h, List.filter_append, hnone, List.nil_append]

/-- The engine owns every byte it may write. -/
theorem owns_of_mayWrite {a : Nat} (h : s.mayWrite a = true) : s.owns a = true := by
  simp only [State.mayWrite, State.owns, List.any_eq_true, Bool.and_eq_true] at h ⊢
  obtain ⟨b, hb, -, hcovers⟩ := h
  exact ⟨b, hb, hcovers⟩

theorem pick_pair (s : State) (v w : Byte) : s.pick v [w] = v ∨ s.pick v [w] = w := by
  simpa using pick_mem s v [w]

/-- After one more race the engine reads what memory holds, the byte of that race, or one that raced
before. -/
theorem portByte_of_race {a : Nat} {w : Byte} (h : t.races = (a, w) :: s.races) :
    t.portByte a = Memory.read t.mem a ∨ t.portByte a = w ∨ t.portByte a ∈ s.raceAlts a := by
  refine (List.mem_cons.mp (pick_mem t _ _)).imp_right fun hrace => ?_
  have hcell : (a, t.portByte a) ∈ (a, w) :: s.races := h ▸ mem_raceAlts.mp hrace
  exact (List.mem_cons.mp hcell).imp (fun he => (Prod.mk.inj he).2) mem_raceAlts.mpr

/-- What a store of the engine leaves is its own byte or one that raced there. -/
theorem pick_storeAlts (s : State) (a : Nat) (v : Byte) :
    s.pick v (s.storeAlts a) = v ∨ (s.raceAlts a ≠ [] ∧
      (s.pick v (s.storeAlts a) = Memory.read s.mem a ∨ s.pick v (s.storeAlts a) ∈ s.raceAlts a)) := by
  have hpick := pick_mem s v (s.storeAlts a)
  cases hr : s.raceAlts a with
  | nil => exact .inl (by rw [storeAlts_of_no_race hr, pick_nil])
  | cons x rest =>
    have halts : s.storeAlts a = Memory.read s.mem a :: x :: rest := by simp [State.storeAlts, hr]
    rw [halts, List.mem_cons, List.mem_cons] at hpick
    rw [halts]
    exact hpick.imp_right fun h => ⟨nofun, h⟩

/-! ### The host's accesses -/

section
variable {addr : Word} (hin : addr.toNat < 2 ^ s.cfg.aw)
include hin

theorem hostStore_mayWrite (v : Byte) (hw : s.mayWrite addr.toNat = true) :
    hostStore addr v s = .next { s with
      mem := Memory.write s.mem addr.toNat (s.pick v [Memory.read s.mem addr.toNat])
      races := (addr.toNat, Memory.read s.mem addr.toNat) :: (addr.toNat, v) :: s.races
      draws := s.draws + 1 } := by
  simp [hostStore, hin, hw]

theorem hostStore_owned (v : Byte) (hw : s.mayWrite addr.toNat = false)
    (ho : s.owns addr.toNat = true) :
    hostStore addr v s = .next { s with
      mem := Memory.write s.mem addr.toNat v
      races := (addr.toNat, Memory.read s.mem addr.toNat) :: s.races } := by
  simp [hostStore, hin, hw, ho]

theorem hostStore_unowned (v : Byte) (ho : s.owns addr.toNat = false) :
    hostStore addr v s = .next { s with mem := Memory.write s.mem addr.toNat v } := by
  have hw : s.mayWrite addr.toNat = false :=
    Bool.eq_false_iff.mpr fun hw => by simp [owns_of_mayWrite hw] at ho
  simp [hostStore, hin, hw, ho]

theorem hostLoad_plain (hw : s.mayWrite addr.toNat = false) :
    hostLoad addr s = .next { s with
      hostData := (Memory.read s.mem addr.toNat).setWidth 32 } := by
  simp [hostLoad, hin, hw]

theorem hostLoad_mayWrite (hw : s.mayWrite addr.toNat = true) :
    hostLoad addr s = .next { s with
      hostData := (Config.raceByte s.draws).setWidth 32, draws := s.draws + 1 } := by
  simp [hostLoad, hin, hw]

end

end

/-- Settles O55: the three ways a host store goes, by who owns the byte, and the bytes a pick is from. -/
theorem racingReadIsTheOldOrTheNewByte : Obligations.RacingReadIsTheOldOrTheNewByte := by
  unfold Obligations.RacingReadIsTheOldOrTheNewByte
  refine ⟨?unraced, ?store, ?engineStore, ?load, ?outside⟩
  case unraced =>
    intro s a h
    rw [State.portByte, h, pick_nil]
  case store =>
    intro s addr v hm hin a
    have hframe {w : Byte} {b : Nat} (hb : b ≠ a) :
        Memory.read (Memory.write s.mem a w) b = Memory.read s.mem b := by
      rw [read_write hm, if_neg hb]
    have hread (w : Byte) : Memory.read (Memory.write s.mem a w) a = w := by
      rw [read_write hm, if_pos rfl]
    cases hw : s.mayWrite a with
    | true =>
      have ho := owns_of_mayWrite hw
      refine ⟨_, hostStore_mayWrite hin v hw, rfl, fun b hb => ⟨hframe hb, ?_⟩, by simp [ho],
        by simp, fun _ => ⟨?_, mem_raceAlts.mpr (.tail _ (.head _)), mem_raceAlts.mpr (.head _)⟩⟩
      · exact raceAlts_of_races_append (l := [(a, Memory.read s.mem a), (a, v)]) rfl
          (by simp [hb.symm])
      · exact (pick_pair ..).imp (hread _).trans (hread _).trans
    | false =>
      cases ho : s.owns a with
      | true =>
        refine ⟨_, hostStore_owned hin v hw ho, rfl, fun b hb => ⟨hframe hb, ?_⟩, by simp,
          fun _ _ => ⟨hread v, rfl, ?_⟩, by simp⟩
        · exact raceAlts_of_races_append (l := [(a, Memory.read s.mem a)]) rfl (by simp [hb.symm])
        · exact (portByte_of_race rfl).imp_left fun h => h.trans (hread v)
      | false =>
        exact ⟨_, hostStore_unowned hin v ho, rfl, fun b hb => ⟨hframe hb, rfl⟩,
          fun _ => ⟨hread v, rfl, rfl⟩, by simp, by simp⟩
  case engineStore =>
    intro s t a v hm h
    rcases memWrite_cases s .grant a v with ⟨-, -, hok⟩ | ⟨e, -, -, he⟩
    · rw [hok] at h
      cases h
      rw [read_write hm, if_pos rfl]
      exact pick_storeAlts s a v
    · rw [he] at h
      cases h
  case load =>
    exact fun s addr hin => ⟨hostLoad_plain hin, fun hw => ⟨_, hostLoad_mayWrite hin hw⟩⟩
  case outside =>
    intro s addr v hout
    exact ⟨if_pos hout, if_pos hout⟩

end Sys2Proof.Machine
end

section
/-! What an event step makes of the memory port (20_memory R62, R66, R68): a handler leaves the port alone
and answers the same to every reply, or it asks once, at an address that exists, and stops on every reply
but a grant. -/

namespace Sys2Proof.Machine

/-! ### The answers of the port -/

section
variable {s : State} {a : Nat}

/-- The byte at the index of a buffer with bytes remaining exists (20_memory R62). -/
theorem addr_lt_of_more (h : s.BuffersOk) {b : BufId} (hm : (s.buf b).more = true) :
    (s.buf b).addr < 2 ^ s.cfg.aw := by
  have hidx := (more_iff _).mp hm
  have hfits := h.bufFits b
  unfold Desc.addr
  omega

theorem memRead_grant (ha : a < 2 ^ s.cfg.aw) :
    s.memRead .grant a = .ok (s.portByte a, { s with
      memHist := s.memHist ++ [.read a], draws := s.drawsAfter (s.raceAlts a) }) := by
  unfold State.memRead
  rw [(portStop_none_iff ..).mpr ⟨rfl, ha⟩]

theorem memWrite_grant (ha : a < 2 ^ s.cfg.aw) (v : Byte) :
    s.memWrite .grant a v = .ok { s with
      mem := Memory.write s.mem a (s.pick v (s.storeAlts a))
      memHist := s.memHist ++ [.write a v]
      draws := s.drawsAfter (s.storeAlts a) } := by
  unfold State.memWrite
  rw [(portStop_none_iff ..).mpr ⟨rfl, ha⟩]

end

/-! ### The relation -/

/-- `PortUse l f`: what `f` makes of the port's reply, started with the memory history `l`. -/
inductive PortUse (l : List MemAccess) (f : PortReply → Except Abort State) : Prop
  /-- a desync, whatever the reply -/
  | desync (h : ∀ r, f r = .error .desync)
  /-- no access: one result, whatever the reply -/
  | quiet (t : State) (h : ∀ r, f r = .ok t) (memHist : t.memHist = l)
  /-- one access: a grant alone gives a result -/
  | access (t : State) (grant : f .grant = .ok t)
      (refuse : f .refuse = .error (.stuck .memoryRefused))
      (device : f .device = .error (.refuse .deviceBuffer))

namespace PortUse
section
variable {l : List MemAccess} {f g : PortReply → Except Abort State}

theorem congr (h : ∀ r, f r = g r) (hg : PortUse l g) : PortUse l f := by
  obtain rfl := funext h
  exact hg

/-- A read of the port at an address that exists, and what follows it. -/
theorem of_memRead {s : State} {a : Nat} {k : Byte × State → State} (ha : a < 2 ^ s.cfg.aw)
    (h : ∀ r, f r = (s.memRead r a).map k) : PortUse l f :=
  .access _ (by rw [h, memRead_grant ha]; rfl) (h _) (h _)

/-- A write to the port at an address that exists, and what follows it. -/
theorem of_memWrite {s : State} {a : Nat} {v : Byte} {k : State → State} (ha : a < 2 ^ s.cfg.aw)
    (h : ∀ r, f r = (s.memWrite r a v).map k) : PortUse l f :=
  .access _ (by rw [h, memWrite_grant ha]; rfl) (h _) (h _)

/-- A branch the reply does not choose. -/
theorem ite {c : Prop} [Decidable c] (hf : c → PortUse l f) (hg : ¬ c → PortUse l g) :
    PortUse l fun r => if c then f r else g r := by
  split
  · exact hf ‹_›
  · exact hg ‹_›

/-- What follows a handler and makes no access. -/
theorem map {k : State → State} (hf : PortUse l f) (hk : ∀ t, (k t).memHist = t.memHist) :
    PortUse l fun r => (f r).map k := by
  rcases hf with h | ⟨t, h, ht⟩ | ⟨t, hg, hr, hd⟩
  · exact .desync fun r => by rw [h]; rfl
  · exact .quiet (k t) (fun r => by rw [h]; rfl) ((hk t).trans ht)
  · exact .access (k t) (by rw [hg]; rfl) (by rw [hr]; rfl) (by rw [hd]; rfl)

end
end PortUse

/-! ### Operations that make no access -/

section
variable (s : State)

@[simp] theorem closeChannel_memHist : s.closeChannel.memHist = s.memHist := by
  unfold State.closeChannel
  split <;> rfl

theorem closeChannel_if_memHist (b : Bool) :
    (if b then s.closeChannel else s).memHist = s.memHist := by
  cases b
  · rfl
  · exact closeChannel_memHist s

theorem masterStop_if_memHist (b : Bool) :
    (if b then s.masterStop else s).memHist = s.memHist := by
  cases b <;> rfl

@[simp] theorem finishXfer_memHist (d : Dir) : (s.finishXfer d).memHist = s.memHist := by
  unfold State.finishXfer
  split <;> rfl

@[simp] theorem addrAckRead_memHist : s.addrAckRead.memHist = s.memHist := by
  unfold State.addrAckRead
  dsimp only
  split
  · rfl
  · exact finishXfer_memHist { s with bus := .mrd } .read

@[simp] theorem addrNak_memHist (d : Dir) : (s.addrNak d).memHist = s.memHist :=
  finishXfer_memHist { s with mstat := s.mstat.nakAddr } d

@[simp] theorem writeNak_memHist : s.writeNak.memHist = s.memHist := by
  unfold State.writeNak
  split
  · exact finishXfer_memHist { s with mstat := s.mstat.shorten } .write
  · exact finishXfer_memHist s .write

theorem addrWait_memHist (nak : Bool) : (s.addrWait nak).memHist = s.memHist := by
  cases nak <;> rfl

theorem writeWait_memHist (nak : Bool) : (s.writeWait nak).memHist = s.memHist := by
  cases nak <;> rfl

theorem readWait_memHist (b : Byte) : (s.readWait b).memHist = s.memHist := by
  unfold State.readWait
  dsimp only
  split <;> rfl

@[simp] theorem byteWait_memHist (e : Snap) : (s.byteWait e).memHist = s.memHist := by
  unfold State.byteWait
  split
  · exact addrWait_memHist s e.nak
  · split
    · exact writeWait_memHist s e.nak
    · split
      · exact readWait_memHist s e.rx
      · rfl

@[simp] theorem timeoutRecover_memHist : s.timeoutRecover.memHist = s.memHist := by
  unfold State.timeoutRecover
  dsimp only
  split <;> rfl

@[simp] theorem takeDesync_memHist : s.takeDesync.memHist = s.memHist := by
  unfold State.takeDesync
  split <;> rfl

end

/-! ### The handlers -/

namespace PortUse
section
variable {s : State} (h : s.BuffersOk)
include h

theorem slaveLoad : PortUse s.memHist fun r => slaveLoad r s := by
  cases hm : s.srd.more with
  | true =>
    have ha : s.srd.addr < 2 ^ s.cfg.aw := addr_lt_of_more h (b := .srd) hm
    refine of_memRead ha (k := fun x => (x.2.bumpIdx .srd).slaveTransmit x.1) fun r => ?_
    simp only [Machine.slaveLoad, hm, if_true]
    cases s.memRead r s.srd.addr <;> rfl
  | false => exact .quiet _ (fun r => if_neg (by simp [hm])) rfl

theorem slaveWriteByte (b : Byte) : PortUse s.memHist fun r => slaveWriteByte r b s := by
  cases hm : s.swr.more with
  | true =>
    have ha : s.swr.addr < 2 ^ s.cfg.aw := addr_lt_of_more h (b := .swr) hm
    refine of_memWrite (s := { s with data := b }) (v := b) ha
      (k := fun t => (t.bumpIdx .swr).emit .ack) fun r => ?_
    simp only [Machine.slaveWriteByte, hm, if_true]
    cases { s with data := b }.memWrite r s.swr.addr b <;> rfl
  | false => exact .quiet _ (fun r => if_neg (by simp [hm])) rfl

theorem sendNext : PortUse s.memHist fun r => sendNext r s := by
  cases hm : s.mwr.more with
  | true =>
    have ha : s.mwr.addr < 2 ^ s.cfg.aw := addr_lt_of_more h (b := .mwr) hm
    refine of_memRead ha
      (k := fun x => ({ x.2 with data := x.1 }.emit (.tx x.1)).bumpIdx .mwr) fun r => ?_
    simp only [Machine.sendNext, hm, if_true]
    cases s.memRead r s.mwr.addr <;> rfl
  | false => exact .quiet _ (fun r => if_neg (by simp [hm])) (finishXfer_memHist s .write)

theorem readByte (b : Byte) : PortUse s.memHist fun r => readByte r b s := by
  cases hm : s.mrd.more with
  | true =>
    have ha : s.mrd.addr < 2 ^ s.cfg.aw := addr_lt_of_more h (b := .mrd) hm
    refine of_memWrite (s := { s with data := b }) (v := b) ha
      (k := fun t => (t.bumpIdx .mrd).readArbitrate) fun r => ?_
    simp only [Machine.readByte, hm, Bool.not_true, Bool.false_eq_true, if_false]
    cases { s with data := b }.memWrite r s.mrd.addr b <;> rfl
  | false => exact .desync fun r => if_pos (by simp [hm])

theorem addressMatch (a : Byte) : PortUse s.memHist fun r => addressMatch r a s := by
  refine ite (fun _ => ?_) fun _ => .quiet _ (fun _ => rfl) rfl
  cases dirPart a with
  | write => exact .quiet _ (fun _ => rfl) rfl
  | read =>
    exact slaveLoad (s := { s with
      data := a, bus := .srd, sstat := { s.sstat with rdBusy := true } }.emit .ack) { h with }

theorem slaveData (e : Snap) : PortUse s.memHist fun r => slaveData e r s := by
  unfold Machine.slaveData
  cases s.bus
  case srd => exact ite (fun _ => .quiet _ (fun _ => rfl) rfl) fun _ => slaveLoad h
  case swd => exact slaveWriteByte h e.rx
  all_goals exact .desync fun _ => rfl

/-- The address byte of a snapshot, once the open channel is closed. -/
theorem addressMatch_closed (stop : Bool) (a : Byte) :
    PortUse s.memHist fun r =>
      Machine.addressMatch r a (if stop then s.closeChannel else s).closeChannel := by
  have k := (EngineKeeps.closeChannel_if (s := s) stop).trans (EngineKeeps.closeChannel _)
  have hmatch := addressMatch (k.buffersOk h) a
  rwa [closeChannel_memHist, closeChannel_if_memHist] at hmatch

theorem slaveEvent (e : Snap) : PortUse s.memHist fun r => slaveEvent e r s := by
  refine ite (fun _ => .desync fun _ => rfl) fun _ => ?_
  refine ite (fun _ => ?address) fun _ => ?_
  case address =>
    exact ite (fun _ => .desync fun _ => rfl) fun _ => addressMatch_closed h e.stop e.rx
  refine ite (fun _ => ?data) fun _ => ?_
  case data =>
    refine congr (fun r => ?_) ((slaveData h e).map (closeChannel_if_memHist · e.stop))
    cases Machine.slaveData e r s <;> rfl
  refine ite (fun _ => .desync fun _ => rfl) fun _ => ?_
  exact ite (fun _ => .quiet _ (fun _ => rfl) (closeChannel_memHist s))
    fun _ => .quiet _ (fun _ => rfl) rfl

theorem masterByte (e : Snap) : PortUse s.memHist fun r => masterByte e r s := by
  refine ite (fun _ => .desync fun _ => rfl) fun _ => ?_
  cases s.bus
  case mwa =>
    exact ite (fun _ => .quiet _ (fun _ => rfl) (addrNak_memHist s .write))
      fun _ => sendNext (s := { s with bus := .mwd }) { h with }
  case mra =>
    refine .quiet _ (fun _ => rfl) ?_
    split
    · exact addrNak_memHist s .read
    · exact addrAckRead_memHist s
  case mwd =>
    exact ite (fun _ => .quiet _ (fun _ => rfl) (writeNak_memHist s)) fun _ => sendNext h
  case mrd => exact readByte h e.rx
  all_goals exact .desync fun _ => rfl

theorem matchAfterLoss (e : Snap) : PortUse s.memHist fun r => matchAfterLoss e r s :=
  ite (fun _ => addressMatch h e.rx) fun _ => .quiet _ (fun _ => rfl) rfl

theorem arbEvent (e : Snap) : PortUse s.memHist fun r => arbEvent e r s := by
  refine ite (fun _ => .desync fun _ => rfl) fun _ => ite (fun _ => .desync fun _ => rfl) fun _ => ?_
  have hmatch (l : List Action) := matchAfterLoss (s := { s with
    actions := l, mstat := s.mstat.loseBus e.lostArb, stopIe := false, bus := .idle }) { h with } e
  dsimp only
  split
  · exact hmatch _
  · exact hmatch _

theorem masterEvent (e : Snap) : PortUse s.memHist fun r => masterEvent e r s := by
  refine ite (fun _ => arbEvent h e) fun _ => ite (fun _ => .desync fun _ => rfl) fun _ => ?_
  have hbyte : PortUse s.memHist fun r => if e.bc then Machine.masterByte e r s else .ok s :=
    ite (fun _ => masterByte h e) fun _ => .quiet _ (fun _ => rfl) rfl
  refine congr (fun r => ?_) (hbyte.map (masterStop_if_memHist · e.stop))
  cases if e.bc then Machine.masterByte e r s else .ok s <;> rfl

theorem manualArb (e : Snap) : PortUse s.memHist fun r => manualArb e r s := by
  refine ite (fun _ => .desync fun _ => rfl) fun _ => ?_
  have hmatch (l : List Action) (c : ResultCode) := matchAfterLoss
    (s := { s with actions := l, bus := .idle }.complete c) { h with } e
  dsimp only
  split
  · exact hmatch _ _
  · exact hmatch _ _

theorem manualWait (e : Snap) : PortUse s.memHist fun r => manualWait e r s := by
  refine ite (fun _ => manualArb h e) fun _ => ite (fun _ => .desync fun _ => rfl) fun _ => ?_
  refine ite (fun _ => ?stop) fun _ => ite (fun _ => .desync fun _ => rfl) fun _ => ?byte
  case stop => exact ite (fun _ => .desync fun _ => rfl) fun _ => .quiet _ (fun _ => rfl) rfl
  case byte =>
    refine ite (fun _ => ?_) fun _ => .quiet _ (fun _ => rfl) (byteWait_memHist s e)
    exact ite (fun _ => .quiet _ (fun _ => rfl) (byteWait_memHist s e))
      fun _ => .desync fun _ => rfl

/-- Handling a snapshot, by whichever of the handlers takes it (40 R103). -/
theorem handle (e : Snap) : PortUse s.memHist fun r => handle e r s := by
  refine ite (fun _ => .quiet _ (fun _ => rfl) (timeoutRecover_memHist s)) fun _ => ?_
  refine ite (fun _ => .quiet _ (fun _ => rfl) rfl) fun _ => ?_
  refine ite (fun _ => manualWait h e) fun _ => ?_
  exact ite (fun _ => masterEvent h e) fun _ => slaveEvent h e

end
end PortUse

/-! ### The event step -/

/-- An event step answers the same next state to every reply and leaves the memory history, or a grant
alone gives it a next state. -/
theorem eventStep_portUse {s : State} (h : s.BuffersOk) (w : SnapWord) :
    (∃ t, (∀ r, eventStep w r s = .next t) ∧ t.memHist = s.memHist) ∨
    ((∃ t, eventStep w .grant s = .next t) ∧ eventStep w .refuse s = .fault .memoryRefused ∧
      eventStep w .device s = .refused .deviceBuffer) := by
  by_cases hd : s.deliverable (snapOf s.cfg w) = true
  · have hstep (r : PortReply) :
        eventStep w r s = closeStep s (handle (snapOf s.cfg w) r s) := if_pos hd
    simp only [hstep]
    rcases PortUse.handle h (snapOf s.cfg w) with hx | ⟨t, hx, ht⟩ | ⟨t, hg, hr, hdev⟩
    · exact .inl ⟨s.takeDesync, fun r => by rw [hx]; rfl, takeDesync_memHist s⟩
    · exact .inl ⟨t, fun r => by rw [hx]; rfl, ht⟩
    · exact .inr ⟨⟨t, by rw [hg]; rfl⟩, by rw [hr]; rfl, by rw [hdev]; rfl⟩
  · exact .inl ⟨s, fun r => if_neg hd, rfl⟩

/-- Settles O59: an event step makes no access, or one at an address that the invariant puts inside the
space. -/
theorem eventStepsStopOnlyOnARefusedAccess : Obligations.EventStepsStopOnlyOnARefusedAccess := by
  unfold Obligations.EventStepsStopOnlyOnARefusedAccess
  intro s w h
  obtain ⟨-, hb, -⟩ := inv_iff.mp h
  rcases eventStep_portUse hb w with ⟨t, hx, ht⟩ | ⟨hg, hr, hdev⟩
  · refine ⟨⟨t, hx _⟩, .inr ((hx _).trans (hx _).symm), fun u hu hne => ?_⟩
    obtain rfl : t = u := by simpa [hx] using hu
    exact absurd ht hne
  · exact ⟨hg, .inl hr, fun _ _ _ => ⟨hr, hdev⟩⟩

end Sys2Proof.Machine
end

section
/-! The two directions between commands and words (30_encoding R80 to R92): the decoder's tests as conditions
on the word, the fields of an encoded word, and the word rebuilt from its fields. -/

namespace Sys2Proof

/-! ### The decoder's tests -/

/-- The bits of a format below the opcode that must be 0 (30_encoding R81 to R86). -/
def Format.reserved (f : Format) : Word := f.mask &&& 0x00FFFFFF#32

/-- The opcodes of each format, by their ranges (30_encoding R87). -/
def Format.HasOpcode : Format → Nat → Prop
  | .N, n => (0x01 ≤ n ∧ n ≤ 0x04) ∨ n = 0x14 ∨ (0x17 ≤ n ∧ n ≤ 0x1C) ∨ (0x21 ≤ n ∧ n ≤ 0x29)
  | .BUF, n => n = 0x10 ∨ n = 0x11
  | .SR, n => n = 0x12 ∨ n = 0x13
  | .WB, n => n = 0x15
  | .RB, n => n = 0x16
  | .SA, n => n = 0x20

theorem hasOpcode_of_opcodeFormat {op : Byte} {f : Format} (h : opcodeFormat op = some f) :
    f.HasOpcode op.toNat := by
  unfold opcodeFormat at h
  split at h <;> cases h <;> simp [Format.HasOpcode, *]

/-- The mask test of R88 asks that the reserved bits are 0: it compares the opcode bits with themselves. -/
theorem and_mask_eq_iff (f : Format) (w : Word) :
    w &&& f.mask = (opField w).setWidth 32 <<< 24 ↔ w &&& f.reserved = 0#32 := by
  simp only [BitVec.eq_of_getLsbD_eq_iff]
  refine forall₂_congr fun k hk => ?_
  cases f <;> interval_cases k <;> simp [opField, Format.reserved, Format.mask]

theorem opcodePresent_eq_true_iff {c : Config} {op : Byte} :
    opcodePresent c op = true ↔
      (0x10 ≤ op.toNat ∧ op.toNat ≤ 0x1C → c.masterEn = true) ∧
        (0x20 ≤ op.toNat ∧ op.toNat ≤ 0x29 → c.slaveEn = true) := by
  unfold opcodePresent
  split_ifs with hm hs
  · exact ⟨fun h => ⟨fun _ => h, fun _ => by omega⟩, fun h => h.1 hm⟩
  · exact ⟨fun h => ⟨fun h' => absurd h' hm, fun _ => h⟩, fun h => h.2 hs⟩
  · simp [hm, hs]

/-- The range test of R89 on a command's opcode is the test of the command's role. -/
theorem opcodePresent_opcode (c : Config) (i : Instr) : opcodePresent c i.opcode = i.wf c := by
  cases i <;> rfl

/-- A word decodes when it passes the three tests of R88, and the opcode map then names its command. -/
theorem decode_eq_ok_iff {c : Config} {w : Word} {i : Instr} :
    decode c w = .ok i ↔ ∃ f, opcodeFormat (opField w) = some f ∧ w &&& f.reserved = 0#32 ∧
      opcodePresent c (opField w) = true ∧ commandOf (opField w) w = some i := by
  unfold decode
  cases opcodeFormat (opField w) with
  | none => simp
  | some f =>
    by_cases hm : w &&& f.reserved = 0#32
    · cases hp : opcodePresent c (opField w) <;> cases commandOf (opField w) w <;>
        simp [and_mask_eq_iff, hm]
    · simp [and_mask_eq_iff, hm]

/-! ### The fields of an encoded word -/

section
variable (op : Byte) (a7 : Addr7)

@[simp] theorem a7Field_encodeBUF (m : TransferMode) : a7Field (encodeBUF op a7 m) = a7 := by
  simp (disch := decide) only [a7Field, encodeBUF, BitVec.extractLsb'_append_eq_of_le,
    BitVec.extractLsb'_append_eq_of_add_le]
  exact BitVec.extractLsb'_eq_self

@[simp] theorem a7Field_encodeSR (rw : Dir) : a7Field (encodeSR op a7 rw) = a7 := by
  simp (disch := decide) only [a7Field, encodeSR, BitVec.extractLsb'_append_eq_of_le,
    BitVec.extractLsb'_append_eq_of_add_le]
  exact BitVec.extractLsb'_eq_self

@[simp] theorem a7Field_encodeSA : a7Field (encodeSA op a7) = a7 := by
  simp (disch := decide) only [a7Field, encodeSA, BitVec.extractLsb'_append_eq_of_le,
    BitVec.extractLsb'_append_eq_of_add_le]
  exact BitVec.extractLsb'_eq_self

@[simp] theorem d8Field_encodeWB (d8 : Byte) : d8Field (encodeWB op d8) = d8 := by
  simp (disch := decide) only [d8Field, encodeWB, BitVec.extractLsb'_append_eq_of_le,
    BitVec.extractLsb'_append_eq_of_add_le]
  exact BitVec.extractLsb'_eq_self

@[simp] theorem modeField_encodeBUF (m : TransferMode) : modeField (encodeBUF op a7 m) = m := by
  simp only [modeField, encodeBUF, BitVec.getLsbD_append (n := 31) (m := 1), BitVec.getLsbD_append]
  simp

@[simp] theorem b0Field_encodeSR (rw : Dir) : b0Field (encodeSR op a7 rw) = rw.bit := by
  simp only [b0Field, encodeSR, BitVec.getLsbD_append (n := 31) (m := 1)]
  simp

@[simp] theorem b0Field_encodeRB (ack : Bool) : b0Field (encodeRB op ack) = ack := by
  simp only [b0Field, encodeRB, BitVec.getLsbD_append (n := 31) (m := 1)]
  simp

end

/-- The opcode map gives a command back from the fields of its encoding (30_encoding R87). -/
theorem commandOf_encode (i : Instr) : commandOf i.opcode (encode i) = some i := by
  cases i <;> simp [commandOf, encode, Instr.opcode, dir_ofBit_bit]

/-! ### The word rebuilt from its fields -/

/-- The word of a format with the operand fields of `w`. -/
def Format.assemble (f : Format) (op : Byte) (w : Word) : Word :=
  match f with
  | .N => encodeN op
  | .BUF => encodeBUF op (a7Field w) (modeField w)
  | .SR => encodeSR op (a7Field w) (Dir.ofBit (b0Field w))
  | .WB => encodeWB op (d8Field w)
  | .RB => encodeRB op (b0Field w)
  | .SA => encodeSA op (a7Field w)

/-- A format's fields are all the bits of a word that are not reserved. -/
theorem assemble_eq_and (f : Format) (w : Word) :
    f.assemble (opField w) w = w &&& ~~~f.reserved := by
  apply BitVec.eq_of_getLsbD_eq
  intro k hk
  cases f
  all_goals
    simp only [Format.assemble, encodeN, encodeBUF, encodeSR, encodeWB, encodeRB, encodeSA,
      dir_bit_ofBit, BitVec.getLsbD_append (n := 31) (m := 1),
      BitVec.getLsbD_append (n := 24) (m := 8), BitVec.getLsbD_append (n := 16) (m := 16),
      BitVec.getLsbD_append (n := 8) (m := 24), BitVec.getLsbD_append]
    interval_cases k <;>
      simp [opField, a7Field, d8Field, modeField, b0Field, Format.reserved, Format.mask]

/-- So a word with no reserved bit set is rebuilt from its fields. -/
theorem assemble_of_reserved_zero {f : Format} {w : Word} (h : w &&& f.reserved = 0#32) :
    f.assemble (opField w) w = w := by
  have hw : (w &&& ~~~f.reserved) ||| (w &&& f.reserved) = w := by
    rw [← BitVec.and_or_distrib_left, BitVec.or_comm, BitVec.or_not_self, BitVec.and_allOnes]
  rw [assemble_eq_and]
  simpa [h] using hw

/-- The command that the opcode map reads from a word is encoded in the opcode's format, with the word's
own fields (30_encoding R87). -/
theorem encode_of_commandOf {op : Byte} {f : Format} {w : Word} {i : Instr}
    (hf : opcodeFormat op = some f) (h : commandOf op w = some i) : encode i = f.assemble op w := by
  obtain rfl := commandOf_opcode h
  cases i <;> cases hf <;> cases h <;> rfl

end Sys2Proof

namespace Sys2Proof.Laws.EncodeFormat

/-- Every command's encoding keeps to its format. -/
theorem encode_keeps_format : ∀ i, Statement i
  | .init => init
  | .enable => enable
  | .start => start
  | .stop => stop
  | .masterWriteBuf a7 mode => masterWriteBuf a7 mode
  | .masterReadBuf a7 mode => masterReadBuf a7 mode
  | .masterSendStart a7 rw => masterSendStart a7 rw
  | .masterSendRestart a7 rw => masterSendRestart a7 rw
  | .masterSendStop => masterSendStop
  | .masterWriteByte d8 => masterWriteByte d8
  | .masterReadByte ack => masterReadByte ack
  | .masterStatus => masterStatus
  | .masterClearStatus => masterClearStatus
  | .masterGetReadBufSize => masterGetReadBufSize
  | .masterGetWriteBufSize => masterGetWriteBufSize
  | .masterClearReadBuf => masterClearReadBuf
  | .masterClearWriteBuf => masterClearWriteBuf
  | .slaveSetAddress a7 => slaveSetAddress a7
  | .slaveInitReadBuf => slaveInitReadBuf
  | .slaveInitWriteBuf => slaveInitWriteBuf
  | .slaveStatus => slaveStatus
  | .slaveClearReadStatus => slaveClearReadStatus
  | .slaveClearWriteStatus => slaveClearWriteStatus
  | .slaveGetReadBufSize => slaveGetReadBufSize
  | .slaveGetWriteBufSize => slaveGetWriteBufSize
  | .slaveClearReadBuf => slaveClearReadBuf
  | .slaveClearWriteBuf => slaveClearWriteBuf

end Sys2Proof.Laws.EncodeFormat

namespace Sys2Proof

/-- Settles O2: the encoding passes the tests of R88, and the opcode map reads its fields back. -/
theorem decodeOfEncodeIsTheCommand : Obligations.DecodeOfEncodeIsTheCommand := by
  unfold Obligations.DecodeOfEncodeIsTheCommand
  intro c i hwf
  obtain ⟨f, hf, hop, hmask⟩ := Laws.EncodeFormat.encode_keeps_format i
  rw [← hop, and_mask_eq_iff] at hmask
  rw [decode_eq_ok_iff, hop]
  exact ⟨f, hf, hmask, (opcodePresent_opcode c i).trans hwf, commandOf_encode i⟩

/-- Settles O3: with no reserved bit set, a word is its opcode and the fields of its command. -/
theorem decodedWordIsTheEncoding : Obligations.DecodedWordIsTheEncoding := by
  unfold Obligations.DecodedWordIsTheEncoding
  intro c w i hd
  obtain ⟨f, hf, hr, hp, hc⟩ := decode_eq_ok_iff.mp hd
  refine ⟨(encode_of_commandOf hf hc).trans (assemble_of_reserved_zero hr), ?_⟩
  rwa [← opcodePresent_opcode, commandOf_opcode hc]

/-- Settles O1: the example words of 95_test_vectors. -/
theorem specExampleWordsDecode : Obligations.SpecExampleWordsDecode := by
  unfold Obligations.SpecExampleWordsDecode
  decide

end Sys2Proof

namespace Sys2Proof.Machine

/-! ### Illegal words -/

/-- An accepted word that does not decode is recorded and answered ILLEGAL (44_lifecycle R250, R255). -/
theorem cmdWrite_of_illegal {s : State} {w : Word} {x : Illegal} (hf : s.fatal = false)
    (hy : s.cmdstat.busy = false) (hd : decode s.cfg w = .error x) :
    cmdWrite w s = .next (s.recordOp w).illegalWord := by
  simp [cmdWrite, hf, hy, hd]

/-- Settles O4: a word that decodes has an opcode of its format's range, no reserved bit set, and its role
present, so each listed cause excludes it. -/
theorem illegalWordsOnlySetCodeAndLastop : Obligations.IllegalWordsOnlySetCodeAndLastop := by
  unfold Obligations.IllegalWordsOnlySetCodeAndLastop
  intro s w hfatal hbusy op hill
  cases hd : decode s.cfg w with
  | error x => exact cmdWrite_of_illegal hfatal hbusy hd
  | ok i =>
    obtain ⟨f, hf, hr, hp, -⟩ := decode_eq_ok_iff.mp hd
    have hop : f.HasOpcode op := hasOpcode_of_opcodeFormat hf
    obtain ⟨hmaster, hslave⟩ := opcodePresent_eq_true_iff.mp hp
    have hm : ¬ (s.cfg.masterEn = false ∧ 0x10 ≤ op ∧ op ≤ 0x1C) :=
      fun ⟨h, hrange⟩ => absurd (hmaster hrange) (by simp [h])
    have hs : ¬ (s.cfg.slaveEn = false ∧ 0x20 ≤ op ∧ op ≤ 0x29) :=
      fun ⟨h, hrange⟩ => absurd (hslave hrange) (by simp [h])
    exfalso
    clear_value op
    cases f
    all_goals
      simp only [Format.HasOpcode] at hop
      simp only [Format.reserved, Format.mask, BitVec.reduceAnd] at hr
      simp only [BitVec.ofNat_eq_ofNat, hr, hm, hs, ne_eq, not_true_eq_false, and_false, or_false,
        false_or] at hill
      omega

end Sys2Proof.Machine
end

section
/-! The address byte and the snapshot word (30_encoding R90, R93, R94; 40 R101). -/

namespace Sys2Proof.Machine

theorem addrPart_addrByte (a7 : Addr7) (rw : Dir) : addrPart (addrByte a7 rw) = a7 := by
  rw [addrPart, addrByte, BitVec.extractLsb'_append_eq_of_le (by decide), BitVec.extractLsb'_eq_self]

theorem dirPart_addrByte (a7 : Addr7) (rw : Dir) : dirPart (addrByte a7 rw) = rw := by
  rw [dirPart, addrByte, BitVec.getLsbD_append, if_pos Nat.one_pos]
  cases rw <;> rfl

theorem addrByte_toNat (a7 : Addr7) (rw : Dir) :
    (addrByte a7 rw).toNat = 2 * a7.toNat + rw.bit.toNat := by
  rw [addrByte, toNat_append_eq_add, BitVec.toNat_ofBool, Nat.mul_comm, Nat.pow_one]

/-- Settles O5: the two parts of the address byte, and their sum. -/
theorem addressByteLayout : Obligations.AddressByteLayout := by
  unfold Obligations.AddressByteLayout
  refine fun a7 rw => ⟨?_, addrPart_addrByte a7 rw, dirPart_addrByte a7 rw⟩
  rw [addrByte_toNat]
  cases rw <;> rfl

/-- Which snapshot words a core discards (40 R101): it is disabled or halted, or no bit that it delivers is
set once masked. -/
theorem deliverable_snapOf_eq_false_iff (s : State) (w : SnapWord) :
    s.deliverable (snapOf s.cfg w) = false ↔ s.en = false ∨ s.fatal = true ∨
      (w.getLsbD 0 = false ∧ (w.getLsbD 3 = false ∨ s.cfg.multiMaster = false) ∧
        (w.getLsbD 5 = false ∨ s.cfg.multiMaster = false) ∧
        (w.getLsbD 6 = false ∨ s.cfg.timeoutEn = false) ∧
        (w.getLsbD 4 = false ∨
          (s.stopIe = false ∧ (s.cmdstat.busy = false ∨ s.cmdstat.wstop = false)))) := by
  simp only [State.deliverable, snapOf, Bool.and_eq_false_iff, Bool.or_eq_false_iff,
    Bool.not_eq_false', and_assoc, or_assoc]

/-- Settles O26: the listed causes are those of `deliverable`. -/
theorem undeliverableSnapshotsAreDiscarded : Obligations.UndeliverableSnapshotsAreDiscarded := by
  unfold Obligations.UndeliverableSnapshotsAreDiscarded
  intro s w r h
  have hd : s.deliverable (snapOf s.cfg w) = false := (deliverable_snapOf_eq_false_iff s w).mpr h
  simp [eventStep, eventStepOn, hd]

/-- The decoded snapshot depends only on the bits that the configuration has (30_encoding R93, R94). -/
theorem snapOf_congr {c : Config} {w v : SnapWord}
    (h : ∀ k, k < 16 → k ≠ 7 → (k = 3 ∨ k = 5 → c.multiMaster = true) →
      (k = 6 → c.timeoutEn = true) → w.getLsbD k = v.getLsbD k) : snapOf c w = snapOf c v := by
  have hplain (k : Nat) (hk : k ∈ [0, 1, 2, 4]) : w.getLsbD k = v.getLsbD k := by
    simp only [List.mem_cons, List.not_mem_nil, or_false] at hk
    exact h k (by omega) (by omega) (by omega) (by omega)
  have harb (k : Nat) (hk : k = 3 ∨ k = 5) :
      (w.getLsbD k && c.multiMaster) = (v.getLsbD k && c.multiMaster) := by
    cases hc : c.multiMaster
    · simp
    · rw [h k (by omega) (by omega) (fun _ => hc) (by omega)]
  have htimeout : (w.getLsbD 6 && c.timeoutEn) = (v.getLsbD 6 && c.timeoutEn) := by
    cases hc : c.timeoutEn
    · simp
    · rw [h 6 (by omega) (by omega) (by omega) (fun _ => hc)]
  have hrx : w.extractLsb' 8 8 = v.extractLsb' 8 8 := by
    apply BitVec.eq_of_getLsbD_eq
    intro k hk
    rw [BitVec.getLsbD_extractLsb', BitVec.getLsbD_extractLsb',
      h (8 + k) (by omega) (by omega) (by omega) (by omega)]
  simp only [snapOf, hplain 0 (by simp), hplain 1 (by simp), hplain 2 (by simp),
    hplain 4 (by simp), harb 3 (by simp), harb 5 (by simp), htimeout, hrx]

/-- Settles O27: a snapshot word is read only through `snapOf`, bit by bit. -/
theorem maskedSnapshotBitsAreNotRead : Obligations.MaskedSnapshotBitsAreNotRead := by
  unfold Obligations.MaskedSnapshotBitsAreNotRead
  intro s w v r h
  rw [eventStep, eventStep, snapOf_congr h]

end Sys2Proof.Machine
end

section
/-! How an event step dispatches its snapshot (40_event_engine R101 to R106): the recovery from a timeout,
the discard under DESYNC, the handler a receptive core calls, and what a desync leaves (60 R275, R276). -/

namespace Sys2Proof.Machine

section
variable {s t : State} {e : Snap} {r : PortReply}

theorem eventStepOn_of_deliverable (h : s.deliverable e = true) :
    eventStepOn e r s = closeStep s (handle e r s) :=
  if_pos h

theorem deliverable_of_bc (hs : s.receptive) (hbc : e.bc = true) : s.deliverable e = true := by
  obtain ⟨hen, hfatal, -, -⟩ := hs
  simp [State.deliverable, hen, hfatal, hbc]

theorem deliverable_of_stop (hs : s.receptive) (hi : s.stopIe = true) (hstop : e.stop = true) :
    s.deliverable e = true := by
  obtain ⟨hen, hfatal, -, -⟩ := hs
  simp [State.deliverable, hen, hfatal, hi, hstop]

theorem deliverable_of_arb (hs : s.receptive) (h : e.lostArb = true ∨ e.startAbort = true) :
    s.deliverable e = true := by
  obtain ⟨hen, hfatal, -, -⟩ := hs
  rcases h with h | h <;> simp [State.deliverable, hen, hfatal, h]

/-- In a master state a receptive core hands the snapshot to `master(E)` (40 R103). -/
theorem eventStepOn_master (hs : s.receptive) (hd : s.deliverable e = true) (ht : e.timeout = false)
    (hm : s.bus.isMaster = true) : eventStepOn e r s = closeStep s (masterEvent e r s) := by
  obtain ⟨-, -, hdesync, hbusy⟩ := hs
  rw [eventStepOn_of_deliverable hd]
  simp [handle, ht, hdesync, hbusy, hm]

/-- Outside the master states a receptive core hands the snapshot to `slave(E)` (40 R103). -/
theorem eventStepOn_slave (hs : s.receptive) (hd : s.deliverable e = true) (ht : e.timeout = false)
    (hm : s.bus.isMaster = false) : eventStepOn e r s = closeStep s (slaveEvent e r s) := by
  obtain ⟨-, -, hdesync, hbusy⟩ := hs
  rw [eventStepOn_of_deliverable hd]
  simp [handle, ht, hdesync, hbusy, hm]

theorem timeoutRecover_eq (s : State) : s.timeoutRecover = { s with
    mstat := s.mstat.abandon
    sstat := s.sstat.dropBusy
    stopIe := false
    desync := false
    bus := .idle
    actions := s.actions ++ [.release]
    cmdstat :=
      if s.cmdstat.busy = true then
        { s.cmdstat with busy := false, wstop := false, code := .timeout }
      else s.cmdstat } := by
  unfold State.timeoutRecover
  split <;> rfl

/-- A desync sets FATAL only without a watchdog, and then nothing else (60 R275). -/
theorem takeDesync_fatal (hs : s.fatal = false) (h : s.takeDesync.fatal = true) :
    s.cfg.timeoutEn = false ∧ s.takeDesync = { s with fatal := true } := by
  cases hc : s.cfg.timeoutEn <;> simp_all [State.takeDesync]

/-- A desync sets DESYNC only with a watchdog, and then nothing else (60 R276). -/
theorem takeDesync_desync (hs : s.desync = false) (h : s.takeDesync.desync = true) :
    s.cfg.timeoutEn = true ∧ s.takeDesync = { s with desync := true } := by
  cases hc : s.cfg.timeoutEn <;> simp_all [State.takeDesync]

/-- Handling a snapshot sets neither fault, so an event step that sets FATAL desynced. -/
theorem eventStep_fatal {w : SnapWord} (h : eventStep w r s = .next t) (hs : s.fatal = false)
    (ht : t.fatal = true) : s.cfg.timeoutEn = false ∧ t = { s with fatal := true } := by
  rcases eventStepOn_next h with ⟨-, rfl⟩ | ⟨-, hh⟩ | ⟨-, -, rfl⟩
  · simp [hs] at ht
  · have hkept := (EngineKeeps.handle hh).fatal
    simp [hkept, hs] at ht
  · exact takeDesync_fatal hs ht

/-- Handling a snapshot sets neither fault, so an event step that sets DESYNC desynced. -/
theorem eventStep_desync {w : SnapWord} (h : eventStep w r s = .next t) (hs : s.desync = false)
    (ht : t.desync = true) : s.cfg.timeoutEn = true ∧ t = { s with desync := true } := by
  rcases eventStepOn_next h with ⟨-, rfl⟩ | ⟨-, hh⟩ | ⟨-, -, rfl⟩
  · simp [hs] at ht
  · have hset := (EngineKeeps.handle hh).desync ht
    simp [hs] at hset
  · exact takeDesync_desync hs ht

/-! ### The fault step -/

theorem CommandEffect.fatal {i : Instr} (h : CommandEffect s i t) : t.fatal = s.fatal := by
  cases h
  case writeBuf => exact setBuf_fatal ..
  case readBuf => exact setBuf_fatal ..
  case clearIdx => exact setIdx_fatal ..
  case install => exact setBuf_fatal ..
  all_goals rfl

/-- Of all agents' steps only a snapshot's sets FATAL. -/
theorem AgentEffect.snapshot_of_fatal {x : AgentStep} (h : AgentEffect s x t) (hs : s.fatal = false)
    (ht : t.fatal = true) : ∃ w r, x = .snapshot w r ∧ eventStep w r s = .next t := by
  cases h
  case event w r h => exact ⟨w, r, rfl, h⟩
  case command effect =>
    have hkept : t.fatal = s.fatal := effect.fatal
    simp [hkept, hs] at ht
  case reset => exact absurd ht nofun
  all_goals exact absurd ht (by simp [State.illegalWord, hs])

theorem not_final_of_fatal (h : s.fatal = true) : s.final = false := by
  simp [State.final, State.faulted, h]

/-- A step of the kind fault answers a state in which FATAL has become 1 (00_scope R7). -/
theorem stepKind_fault (h : stepKind s = .fault) :
    ∃ t, step s = .next t ∧ s.fatal = false ∧ t.fatal = true := by
  unfold stepKind at h
  split at h
  case h_1 t hstep =>
    refine ⟨t, hstep, ?_⟩
    split at h
    case isTrue hf => simpa [State.faulted, and_comm] using hf
    case isFalse => cases h
  all_goals cases h

/-- A step in which FATAL becomes 1 takes a snapshot that desyncs without a watchdog. -/
theorem step_fatal (hstep : step s = .next t) (hs : s.fatal = false) (ht : t.fatal = true) :
    s.cfg.timeoutEn = false ∧ ∃ level w r rest, s.inputs = ⟨level, .snapshot w r⟩ :: rest ∧
      step s = settle (.next { s with inputs := rest, busBusy := level, fatal := true }) := by
  rcases step_effect hstep with rfl | ⟨level, x, rest, u, hi, heffect, rfl⟩
  · simp [hs] at ht
  · obtain ⟨w, r, rfl, hevent⟩ := heffect.snapshot_of_fatal hs ht
    obtain ⟨hc, rfl⟩ := eventStep_fatal hevent hs ht
    exact ⟨hc, level, w, r, rest, hi, hstep⟩

end

/-! ### The statements -/

/-- Settles O28: `timeoutRecover` is reached whatever else the snapshot carries. -/
theorem timeoutRecovers : Obligations.TimeoutRecovers := by
  unfold Obligations.TimeoutRecovers
  intro s e r hen hfatal ht
  have hd : s.deliverable e = true := by simp [State.deliverable, hen, hfatal, ht]
  have hh : handle e r s = .ok s.timeoutRecover := if_pos ht
  rw [eventStepOn_of_deliverable hd, hh, timeoutRecover_eq]
  rfl

/-- Settles O29: delivered or not, the snapshot leaves the state as it was. -/
theorem desynchronisedCoreDiscardsSnapshots : Obligations.DesynchronisedCoreDiscardsSnapshots := by
  unfold Obligations.DesynchronisedCoreDiscardsSnapshots
  intro s e r hdesync ht
  have hh : handle e r s = .ok s := by simp [handle, ht, hdesync]
  unfold eventStepOn
  split
  · rw [hh]
    rfl
  · rfl

/-- Settles O30: only `takeDesync` sets a fault, and only a snapshot's step comes to it. -/
theorem desyncDropsTheWholeStep : Obligations.DesyncDropsTheWholeStep := by
  unfold Obligations.DesyncDropsTheWholeStep
  refine ⟨fun s t w r h => ⟨eventStep_fatal h, eventStep_desync h⟩, fun s hkind => ?_⟩
  obtain ⟨t, hstep, hs, ht⟩ := stepKind_fault hkind
  obtain ⟨hc, level, w, r, rest, hi, hfault⟩ := step_fatal hstep hs ht
  refine ⟨hc, level, w, r, rest, hi, hfault, fun u hu => ?_⟩
  obtain rfl : t = u := by simpa [hstep] using hu
  exact not_final_of_fatal ht

end Sys2Proof.Machine
end

section
/-! The engine's index and its byte transfers as equations: each operation on a buffer is the port's answer
with the rest of the operation applied to it (40_event_engine R110, R117, R134, R137), and under a grant the
next state itself. -/

namespace Sys2Proof.Machine

section
variable {s : State} {r : PortReply} {b : BufId}

theorem not_more_iff (d : Desc) : d.more = false ↔ d.cap.toNat ≤ d.idx.toNat := by
  simp [Desc.more]

/-- The index of a buffer with bytes remaining advances by 1 (20_memory R74). -/
theorem idx_succ_of_more (h : s.BuffersOk) (hm : (s.buf b).more = true) :
    (s.buf b).idx + 1 = incIdx s.cfg (s.buf b).idx :=
  (incIdx_eq ((more_iff _).mp hm) (h.bufCapWidth b)).symm

/-! ### The port's answer -/

theorem slaveLoad_of_more (hm : s.srd.more = true) :
    slaveLoad r s =
      (s.memRead r s.srd.addr).map fun x => (x.2.bumpIdx .srd).slaveTransmit x.1 := by
  simp only [slaveLoad, hm, if_true]
  cases s.memRead r s.srd.addr <;> rfl

theorem slaveLoad_of_exhausted (hm : s.srd.more = false) :
    slaveLoad r s = .ok { s with
      sstat := { s.sstat with rdOvfl := true }
      data := sentinel
      actions := s.actions ++ [.tx sentinel] } :=
  if_neg (by simp [hm])

theorem slaveWriteByte_of_more (hm : s.swr.more = true) (v : Byte) :
    slaveWriteByte r v s =
      ({ s with data := v }.memWrite r s.swr.addr v).map fun t : State =>
        (t.bumpIdx .swr).emit .ack := by
  simp only [slaveWriteByte, hm, if_true]
  cases { s with data := v }.memWrite r s.swr.addr v <;> rfl

theorem slaveWriteByte_of_full (hm : s.swr.more = false) (v : Byte) :
    slaveWriteByte r v s = .ok { s with
      data := v
      sstat := { s.sstat with wrOvfl := true }
      actions := s.actions ++ [.nak] } :=
  if_neg (by simp [hm])

theorem sendNext_of_more (hm : s.mwr.more = true) :
    sendNext r s = (s.memRead r s.mwr.addr).map fun x =>
      ({ x.2 with data := x.1 }.emit (.tx x.1)).bumpIdx .mwr := by
  simp only [sendNext, hm, if_true]
  cases s.memRead r s.mwr.addr <;> rfl

theorem sendNext_of_exhausted (hm : s.mwr.more = false) :
    sendNext r s = .ok (s.finishXfer .write) :=
  if_neg (by simp [hm])

theorem readByte_of_more (hm : s.mrd.more = true) (v : Byte) :
    readByte r v s = ({ s with data := v }.memWrite r s.mrd.addr v).map fun t : State =>
      (t.bumpIdx .mrd).readArbitrate := by
  simp only [readByte, hm, Bool.not_true, Bool.false_eq_true, if_false]
  cases { s with data := v }.memWrite r s.mrd.addr v <;> rfl

theorem readByte_of_full (hm : s.mrd.more = false) (v : Byte) :
    readByte r v s = .error .desync :=
  if_pos (by simp [hm])

/-- What follows a read of the port, when it gives a result. -/
theorem memRead_map_ok {t : State} {a : Nat} {k : Byte × State → State}
    (h : (s.memRead r a).map k = .ok t) :
    t = k (s.portByte a, { s with
      memHist := s.memHist ++ [.read a], draws := s.drawsAfter (s.raceAlts a) }) := by
  rcases memRead_cases s r a with ⟨-, -, hok⟩ | ⟨e, -, -, herr⟩
  · rw [hok] at h
    cases h
    rfl
  · rw [herr] at h
    cases h

/-- What follows a write to the port, when it gives a result. -/
theorem memWrite_map_ok {t : State} {a : Nat} {v : Byte} {k : State → State}
    (h : (s.memWrite r a v).map k = .ok t) :
    t = k { s with
      mem := Memory.write s.mem a (s.pick v (s.storeAlts a))
      memHist := s.memHist ++ [.write a v]
      draws := s.drawsAfter (s.storeAlts a) } := by
  rcases memWrite_cases s r a v with ⟨-, -, hok⟩ | ⟨e, -, -, herr⟩
  · rw [hok] at h
    cases h
    rfl
  · rw [herr] at h
    cases h

theorem memRead_ne_desync (a : Nat) : s.memRead r a ≠ .error .desync := by
  rcases memRead_cases s r a with ⟨-, -, h⟩ | ⟨e, -, hne, h⟩ <;> simp_all

theorem memWrite_ne_desync (a : Nat) (v : Byte) : s.memWrite r a v ≠ .error .desync := by
  rcases memWrite_cases s r a v with ⟨-, -, h⟩ | ⟨e, -, hne, h⟩ <;> simp_all

theorem map_ne_desync {α β : Type} {x : Except Abort α} (f : α → β) (h : x ≠ .error .desync) :
    x.map f ≠ .error .desync := by
  cases x <;> simp_all [Except.map]

theorem slaveLoad_ne_desync : slaveLoad r s ≠ .error .desync := by
  cases hm : s.srd.more
  · simp [slaveLoad_of_exhausted hm]
  · rw [slaveLoad_of_more hm]
    exact map_ne_desync _ (memRead_ne_desync _)

theorem slaveWriteByte_ne_desync (v : Byte) : slaveWriteByte r v s ≠ .error .desync := by
  cases hm : s.swr.more
  · simp [slaveWriteByte_of_full hm]
  · rw [slaveWriteByte_of_more hm]
    exact map_ne_desync _ (memWrite_ne_desync _ _)

/-! ### Under a grant -/

/-- The byte received is in MRD and the index advanced (40 R117); the arbitration of R118 is to come. -/
def State.readStored (s : State) (v : Byte) : State :=
  { s with
    mem := Memory.write s.mem s.mrd.addr (s.pick v (s.storeAlts s.mrd.addr))
    draws := s.drawsAfter (s.storeAlts s.mrd.addr)
    memHist := s.memHist ++ [.write s.mrd.addr v]
    data := v
    mrd := ⟨s.mrd.ptr, s.mrd.cap, s.mrd.idx + 1⟩ }

section
variable (h : s.BuffersOk)
include h

theorem slaveLoad_grant (hm : s.srd.more = true) :
    slaveLoad .grant s = .ok { s with
      data := s.portByte s.srd.addr
      srd := ⟨s.srd.ptr, s.srd.cap, s.srd.idx + 1⟩
      memHist := s.memHist ++ [.read s.srd.addr]
      draws := s.drawsAfter (s.raceAlts s.srd.addr)
      actions := s.actions ++ [.tx (s.portByte s.srd.addr)] } := by
  have ha : s.srd.addr < 2 ^ s.cfg.aw := addr_lt_of_more h (b := .srd) hm
  have hidx : s.srd.idx + 1 = incIdx s.cfg s.srd.idx := idx_succ_of_more h (b := .srd) hm
  rw [slaveLoad_of_more hm, memRead_grant ha, hidx]
  rfl

theorem sendNext_grant (hm : s.mwr.more = true) :
    sendNext .grant s = .ok { s with
      data := s.portByte s.mwr.addr
      mwr := ⟨s.mwr.ptr, s.mwr.cap, s.mwr.idx + 1⟩
      memHist := s.memHist ++ [.read s.mwr.addr]
      draws := s.drawsAfter (s.raceAlts s.mwr.addr)
      actions := s.actions ++ [.tx (s.portByte s.mwr.addr)] } := by
  have ha : s.mwr.addr < 2 ^ s.cfg.aw := addr_lt_of_more h (b := .mwr) hm
  have hidx : s.mwr.idx + 1 = incIdx s.cfg s.mwr.idx := idx_succ_of_more h (b := .mwr) hm
  rw [sendNext_of_more hm, memRead_grant ha, hidx]
  rfl

theorem slaveWriteByte_grant (hm : s.swr.more = true) (v : Byte) :
    slaveWriteByte .grant v s = .ok { s with
      mem := Memory.write s.mem s.swr.addr (s.pick v (s.storeAlts s.swr.addr))
      draws := s.drawsAfter (s.storeAlts s.swr.addr)
      memHist := s.memHist ++ [.write s.swr.addr v]
      data := v
      swr := ⟨s.swr.ptr, s.swr.cap, s.swr.idx + 1⟩
      actions := s.actions ++ [.ack] } := by
  have ha : s.swr.addr < 2 ^ { s with data := v }.cfg.aw := addr_lt_of_more h (b := .swr) hm
  have hidx : s.swr.idx + 1 = incIdx s.cfg s.swr.idx := idx_succ_of_more h (b := .swr) hm
  rw [slaveWriteByte_of_more hm, memWrite_grant ha, hidx]
  rfl

theorem readByte_grant (hm : s.mrd.more = true) (v : Byte) :
    readByte .grant v s = .ok (s.readStored v).readArbitrate := by
  have ha : s.mrd.addr < 2 ^ { s with data := v }.cfg.aw := addr_lt_of_more h (b := .mrd) hm
  have hidx : s.mrd.idx + 1 = incIdx s.cfg s.mrd.idx := idx_succ_of_more h (b := .mrd) hm
  rw [readByte_of_more hm, memWrite_grant ha, State.readStored, hidx]
  rfl

/-- A store of the engine leaves every other byte, and without a race memory holds the byte stored. -/
theorem read_engineStore (a : Nat) (v : Byte) :
    (∀ b, b ≠ a → Memory.read (Memory.write s.mem a (s.pick v (s.storeAlts a))) b =
      Memory.read s.mem b) ∧
    (s.raceAlts a = [] → Memory.read (Memory.write s.mem a (s.pick v (s.storeAlts a))) a = v) := by
  refine ⟨fun b hb => ?_, fun hrace => ?_⟩
  · rw [read_write h.memCanonical, if_neg hb]
  · rw [storeAlts_of_no_race hrace, pick_nil, read_write h.memCanonical, if_pos rfl]

end
end
end Sys2Proof.Machine
end

section
/-! The buffered master transfers (40_event_engine R107 to R119): what `master(E)` does with a byte in each
transfer state, how a transfer finishes, and the Stop that completes it. -/

namespace Sys2Proof.Machine

section
variable {s : State} {e : Snap} {r : PortReply}

theorem setBus_self {b : BusState} (h : s.bus = b) : { s with bus := b } = s := by
  subst h
  rfl

theorem isMaster_of_writing (hb : s.bus = .mwa ∨ s.bus = .mwd) : s.bus.isMaster = true := by
  rcases hb with hb | hb <;> rw [hb] <;> rfl

theorem isMaster_of_reading (hb : s.bus = .mra ∨ s.bus = .mrd) : s.bus.isMaster = true := by
  rcases hb with hb | hb <;> rw [hb] <;> rfl

theorem stopDir_writing (hb : s.bus = .mwa ∨ s.bus = .mwd) : s.stopDir = .write := by
  rcases hb with hb | hb <;> simp [State.stopDir, hb]

theorem stopDir_reading (hb : s.bus = .mra ∨ s.bus = .mrd) : s.stopDir = .read := by
  rcases hb with hb | hb <;> simp [State.stopDir, hb]

theorem stopDir_halted (hb : s.bus = .mh) : s.stopDir = s.mmode.dir := by
  simp [State.stopDir, hb]

/-! ### The handler's dispatch -/

/-- A plain byte is processed before the Stop that comes with it (40 R107). -/
theorem masterEvent_byte (he : e.plain) (hbc : e.bc = true) (hsaddr : e.saddr = false) :
    masterEvent e r s =
      (masterByte e r s).map fun t => if e.stop then t.masterStop else t := by
  obtain ⟨-, hlost, habort⟩ := he
  simp only [masterEvent, hlost, habort, hsaddr, hbc, Bool.or_self, Bool.false_eq_true, if_false,
    if_true]
  cases masterByte e r s <;> rfl

theorem masterEvent_stop (he : e.plain) (hbc : e.bc = false) (hsaddr : e.saddr = false)
    (hstop : e.stop = true) : masterEvent e r s = .ok s.masterStop := by
  obtain ⟨-, hlost, habort⟩ := he
  simp [masterEvent, hlost, habort, hsaddr, hbc, hstop]

/-- A transfer in flight takes a plain byte by `master_byte(E)`, then the Stop if one came along. -/
theorem eventStepOn_masterByte (hs : s.receptive) (hm : s.bus.isMaster = true) (he : e.plain)
    (hbc : e.bc = true) (hsaddr : e.saddr = false) :
    eventStepOn e r s = closeStep s
      ((masterByte e r s).map fun t => if e.stop then t.masterStop else t) := by
  rw [eventStepOn_master hs (deliverable_of_bc hs hbc) he.1 hm, masterEvent_byte he hbc hsaddr]

theorem eventStepOn_masterByte_ok {t : State} (hs : s.inFlight) (hm : s.bus.isMaster = true)
    (he : e.dataByte) (ht : masterByte e r s = .ok t) : eventStepOn e r s = .next t := by
  obtain ⟨hplain, hbc, hsaddr, hstop⟩ := he
  rw [eventStepOn_masterByte hs.1 hm hplain hbc hsaddr, ht, hstop]
  rfl

/-! ### The byte in each transfer state (40 R109) -/

section
variable (hs : s.inFlight)
include hs

theorem masterByte_mwa_nak (hb : s.bus = .mwa) (hn : e.nak = true) :
    masterByte e r s = .ok (s.addrNak .write) := by
  obtain ⟨-, hx, hi⟩ := hs
  simp [masterByte, hi, hx, hb, hn]

theorem masterByte_mra_nak (hb : s.bus = .mra) (hn : e.nak = true) :
    masterByte e r s = .ok (s.addrNak .read) := by
  obtain ⟨-, hx, hi⟩ := hs
  simp [masterByte, hi, hx, hb, hn]

theorem masterByte_mwd_nak (hb : s.bus = .mwd) (hn : e.nak = true) :
    masterByte e r s = .ok s.writeNak := by
  obtain ⟨-, hx, hi⟩ := hs
  simp [masterByte, hi, hx, hb, hn]

theorem masterByte_mra_ack (hb : s.bus = .mra) (hn : e.nak = false) :
    masterByte e r s = .ok s.addrAckRead := by
  obtain ⟨-, hx, hi⟩ := hs
  simp [masterByte, hi, hx, hb, hn]

theorem masterByte_mrd (hb : s.bus = .mrd) : masterByte e r s = readByte r e.rx s := by
  obtain ⟨-, hx, hi⟩ := hs
  simp [masterByte, hi, hx, hb]

/-- The ACK of the address and of a data byte are one: the next byte goes out in MWD (40 R110, R115). -/
theorem masterByte_write_ack (hb : s.bus = .mwa ∨ s.bus = .mwd) (hn : e.nak = false) :
    masterByte e r s = sendNext r { s with bus := .mwd } := by
  obtain ⟨-, hx, hi⟩ := hs
  rcases hb with hb | hb
  · simp [masterByte, hi, hx, hb, hn, addrAckWrite]
  · rw [setBus_self hb]
    simp [masterByte, hi, hx, hb, hn, writeAck]

end

/-! ### How a transfer finishes (40 R112 to R114, R116, R118) -/

section
variable (hn : s.mmode.mode.noStop = false)
include hn

theorem finishXfer_stop (d : Dir) :
    s.finishXfer d = { s with actions := s.actions ++ [.stop], stopIe := true } :=
  if_neg (by simp [hn])

theorem addrNak_stop (d : Dir) :
    s.addrNak d = { s with
      mstat := s.mstat.nakAddr, actions := s.actions ++ [.stop], stopIe := true } :=
  finishXfer_stop (s := { s with mstat := s.mstat.nakAddr }) hn d

theorem writeNak_short_stop (hm : s.mwr.more = true) :
    s.writeNak = { s with
      mstat := s.mstat.shorten, actions := s.actions ++ [.stop], stopIe := true } :=
  (if_pos hm).trans (finishXfer_stop (s := { s with mstat := s.mstat.shorten }) hn .write)

theorem addrAckRead_empty_stop (hc : s.mrd.cap = 0) :
    s.addrAckRead = { s with
      bus := .mrd, actions := s.actions ++ [.stop], stopIe := true } :=
  (if_neg (by simp [hc])).trans (finishXfer_stop (s := { s with bus := .mrd }) hn .read)

theorem readArbitrate_last_stop (hm : s.mrd.more = false) :
    s.readArbitrate = { s with actions := s.actions ++ [.nak, .stop], stopIe := true } := by
  refine (if_neg (by simp [hm])).trans ((finishXfer_stop (s := s.emit .nak) hn .read).trans ?_)
  simp [State.emit]

end

section
variable (hn : s.mmode.mode.noStop = true)
include hn

theorem finishXfer_halt (d : Dir) :
    s.finishXfer d = { s with bus := .mh, mstat := s.mstat.finishHalt d } :=
  if_pos hn

theorem addrNak_halt (d : Dir) :
    s.addrNak d = { s with bus := .mh, mstat := s.mstat.nakAddr.finishHalt d } :=
  finishXfer_halt (s := { s with mstat := s.mstat.nakAddr }) hn d

theorem writeNak_short_halt (hm : s.mwr.more = true) :
    s.writeNak = { s with bus := .mh, mstat := s.mstat.shorten.finishHalt .write } :=
  (if_pos hm).trans (finishXfer_halt (s := { s with mstat := s.mstat.shorten }) hn .write)

theorem addrAckRead_empty_halt (hc : s.mrd.cap = 0) :
    s.addrAckRead = { s with bus := .mh, mstat := s.mstat.finishHalt .read } :=
  (if_neg (by simp [hc])).trans (finishXfer_halt (s := { s with bus := .mrd }) hn .read)

theorem readArbitrate_last_halt (hm : s.mrd.more = false) :
    s.readArbitrate = { s with
      bus := .mh, mstat := s.mstat.finishHalt .read, actions := s.actions ++ [.nak] } :=
  (if_neg (by simp [hm])).trans (finishXfer_halt (s := s.emit .nak) hn .read)

end

theorem addrAckRead_nonempty (hc : s.mrd.cap ≠ 0) :
    s.addrAckRead = { s with bus := .mrd, actions := s.actions ++ [.rx] } :=
  if_pos hc

theorem writeNak_exhausted (hm : s.mwr.more = false) : s.writeNak = s.finishXfer .write :=
  if_neg (by simp [hm])

theorem readArbitrate_room (hm : s.mrd.more = true) :
    s.readArbitrate = { s with actions := s.actions ++ [.ack, .rx] } :=
  (if_pos hm).trans (by simp [State.emit])

/-- With every byte sent, ACK or NAK alike finish the write (40 R115, R116). -/
theorem masterByte_write_exhausted (hs : s.inFlight)
    (hb : s.bus = .mwd ∨ (s.bus = .mwa ∧ e.nak = false)) (hm : s.mwr.more = false) :
    masterByte e r s = .ok ({ s with bus := .mwd }.finishXfer .write) := by
  cases hn : e.nak with
  | false =>
    have hb : s.bus = .mwa ∨ s.bus = .mwd := hb.symm.imp_left And.left
    rw [masterByte_write_ack hs hb hn, sendNext_of_exhausted (s := { s with bus := .mwd }) hm]
  | true =>
    have hb : s.bus = .mwd := hb.resolve_right (by simp [hn])
    rw [masterByte_mwd_nak hs hb hn, writeNak_exhausted hm, setBus_self hb]

theorem idx_succ_toNat {d : Desc} (hm : d.more = true) : (d.idx + 1).toNat = d.idx.toNat + 1 := by
  have hlt := (more_iff d).mp hm
  have hcap := d.cap.isLt
  rw [BitVec.toNat_add]
  exact Nat.mod_eq_of_lt (show d.idx.toNat + 1 < 2 ^ 16 by omega)

/-- After a byte is stored, room remains unless it was the last (40 R118). -/
theorem readStored_more (hm : s.mrd.more = true) (v : Byte) :
    (s.readStored v).mrd.more = false ↔ s.mrd.idx.toNat + 1 = s.mrd.cap.toNat := by
  have hlt := (more_iff _).mp hm
  rw [not_more_iff]
  simp only [State.readStored, idx_succ_toNat hm]
  omega

end

/-! ### The statements -/

/-- Settles O33: the next byte is `sendNext`'s under a grant. -/
theorem masterWriteSendsTheNextByte : Obligations.MasterWriteSendsTheNextByte := by
  unfold Obligations.MasterWriteSendsTheNextByte
  intro s e hinv hs he hn hb hlt
  obtain ⟨-, hbuf, -⟩ := inv_iff.mp hinv
  have hmoved : { s with bus := .mwd }.BuffersOk := { hbuf with }
  exact eventStepOn_masterByte_ok hs (isMaster_of_writing hb) he
    ((masterByte_write_ack hs hb hn).trans (sendNext_grant hmoved ((more_iff _).mpr hlt)))

/-- Settles O34: with every byte sent the transfer finishes in MWD, as its mode says. -/
theorem masterWriteFinishesAfterTheLastByte : Obligations.MasterWriteFinishesAfterTheLastByte := by
  unfold Obligations.MasterWriteFinishesAfterTheLastByte
  intro s e r hs he hb hle
  have hm : s.bus.isMaster = true := isMaster_of_writing (hb.symm.imp_left And.left)
  have hstep := eventStepOn_masterByte_ok (r := r) hs hm he
    (masterByte_write_exhausted hs hb ((not_more_iff _).mpr hle))
  refine ⟨fun hn => hstep.trans ?stop, fun hn => hstep.trans ?halt⟩
  case stop => rw [finishXfer_stop (s := { s with bus := .mwd }) hn]
  case halt =>
    rw [finishXfer_halt (s := { s with bus := .mwd }) hn]
    rfl

/-- Settles O35: each NAK records its error, and the transfer ends by Stop or Halted. -/
theorem masterNaksAreRecorded : Obligations.MasterNaksAreRecorded := by
  unfold Obligations.MasterNaksAreRecorded
  intro s e r hs he hnak
  have hmwa (hb : s.bus = .mwa) : eventStepOn e r s = .next (s.addrNak .write) :=
    eventStepOn_masterByte_ok hs (by rw [hb]; rfl) he (masterByte_mwa_nak hs hb hnak)
  have hmra (hb : s.bus = .mra) : eventStepOn e r s = .next (s.addrNak .read) :=
    eventStepOn_masterByte_ok hs (by rw [hb]; rfl) he (masterByte_mra_nak hs hb hnak)
  have hmwd (hb : s.bus = .mwd) : eventStepOn e r s = .next s.writeNak :=
    eventStepOn_masterByte_ok hs (by rw [hb]; rfl) he (masterByte_mwd_nak hs hb hnak)
  refine ⟨fun hb hn => ?_, fun hb hn => ?_, fun hb hn => ?_, fun hb hn => ?_,
    fun hb hlt hn => ?_, fun hb hlt hn => ?_⟩
  · rw [hmwa hb, addrNak_stop hn]
    rfl
  · rw [hmra hb, addrNak_stop hn]
    rfl
  · rw [hmwa hb, addrNak_halt hn]
    rfl
  · rw [hmra hb, addrNak_halt hn]
    rfl
  · rw [hmwd hb, writeNak_short_stop hn ((more_iff _).mpr hlt)]
    rfl
  · rw [hmwd hb, writeNak_short_halt hn ((more_iff _).mpr hlt)]
    rfl

/-- Settles O36: the address ACK of a read, and each byte stored and then arbitrated. -/
theorem masterReadStoresAndArbitrates : Obligations.MasterReadStoresAndArbitrates := by
  unfold Obligations.MasterReadStoresAndArbitrates
  intro s e hinv hs he
  obtain ⟨-, hbuf, -⟩ := inv_iff.mp hinv
  have hack (hb : s.bus = .mra) (hn : e.nak = false) :
      eventStepOn e .grant s = .next s.addrAckRead :=
    eventStepOn_masterByte_ok hs (by rw [hb]; rfl) he (masterByte_mra_ack hs hb hn)
  refine ⟨fun hb hn hc => ?_, fun hb hn hc hstop => ?_, fun hb hn hc hstop => ?_, fun hb hlt => ?_⟩
  · rw [hack hb hn, addrAckRead_nonempty hc]
  · rw [hack hb hn, addrAckRead_empty_stop hstop hc]
  · rw [hack hb hn, addrAckRead_empty_halt hstop hc]
    rfl
  · intro a last
    have hmore : s.mrd.more = true := (more_iff _).mpr hlt
    have hfull : (s.readStored e.rx).mrd.more = false ↔ last := readStored_more hmore e.rx
    have hi : s.stopIe = false := hs.2.2
    obtain ⟨hframe, hbyte⟩ := read_engineStore hbuf a e.rx
    have hstep := eventStepOn_masterByte_ok hs (by rw [hb]; rfl) he
      ((masterByte_mrd hs hb).trans (readByte_grant hbuf hmore e.rx))
    by_cases hlast : last
    · cases hn : s.mmode.mode.noStop with
      | false =>
        rw [readArbitrate_last_stop (s := s.readStored e.rx) hn (hfull.mpr hlast)] at hstep
        refine ⟨_, hstep, hframe, hbyte, ?_⟩
        simp [hlast, hb, State.readStored, Desc.addr, a]
      | true =>
        rw [readArbitrate_last_halt (s := s.readStored e.rx) hn (hfull.mpr hlast)] at hstep
        refine ⟨_, hstep, hframe, hbyte, ?_⟩
        simp [hlast, hi, State.readStored, Desc.addr, a, MStat.finishHalt, MStat.complete]
    · rw [readArbitrate_room (by simpa [hlast] using hfull)] at hstep
      refine ⟨_, hstep, hframe, hbyte, ?_⟩
      simp [hlast, hb, hi, State.readStored, Desc.addr, a]

/-- Settles O37: `masterStop` completes the direction that the bus state names. -/
theorem stopCompletesTheMasterTransfer : Obligations.StopCompletesTheMasterTransfer := by
  unfold Obligations.StopCompletesTheMasterTransfer
  intro s e r hs hi he hbc hsaddr hstop
  have hstep (hm : s.bus.isMaster = true) : eventStepOn e r s = .next s.masterStop := by
    rw [eventStepOn_master hs (deliverable_of_stop hs hi hstop) he.1 hm,
      masterEvent_stop he hbc hsaddr hstop]
    rfl
  refine ⟨fun hb => ?write, fun hb => ?read⟩
  case write =>
    rw [hstep (isMaster_of_writing hb), State.masterStop, stopDir_writing hb]
    rfl
  case read =>
    rw [hstep (isMaster_of_reading hb), State.masterStop, stopDir_reading hb]
    rfl

end Sys2Proof.Machine
end

section
/-! The slave role (40_event_engine R125 to R141): what `slave(E)` does with an address byte, a data byte and
a Stop, and the statements on the slave channels. -/

namespace Sys2Proof.Machine

section
variable {s : State} {e : Snap} {r : PortReply}

/-! ### The handler's dispatch (40 R125) -/

/-- The open channel is closed once, Stop or not, before an address byte is matched. -/
theorem slaveEvent_address (he : e.plain) (hbc : e.bc = true) (hsaddr : e.saddr = true)
    (hm : s.bus.isMaster = false) (hen : s.cfg.slaveEn = true) :
    slaveEvent e r s = addressMatch r e.rx s.closeChannel := by
  obtain ⟨-, hlost, habort⟩ := he
  have hclose := closeChannel_closeChannel_if e.stop hm
  simp only [slaveEvent, hlost, habort, hbc, hsaddr, hen, hclose, Bool.or_self, Bool.and_self,
    Bool.not_true, Bool.false_eq_true, if_false, if_true]

/-- A data byte is processed before the Stop that comes with it. -/
theorem slaveEvent_data (he : e.plain) (hbc : e.bc = true) (hsaddr : e.saddr = false) :
    slaveEvent e r s =
      (slaveData e r s).map fun t => if e.stop then t.closeChannel else t := by
  obtain ⟨-, hlost, habort⟩ := he
  simp only [slaveEvent, hlost, habort, hbc, hsaddr, Bool.or_self, Bool.and_false,
    Bool.false_eq_true, if_false, if_true]
  cases slaveData e r s <;> rfl

theorem slaveEvent_stop (he : e.plain) (hbc : e.bc = false) (hsaddr : e.saddr = false)
    (hstop : e.stop = true) : slaveEvent e r s = .ok s.closeChannel := by
  obtain ⟨-, hlost, habort⟩ := he
  simp [slaveEvent, hlost, habort, hbc, hsaddr, hstop]

/-- Outside the master states a receptive core matches an address byte once the open channel is closed. -/
theorem eventStepOn_slaveAddress (hs : s.receptive) (hm : s.bus.isMaster = false) (he : e.plain)
    (hbc : e.bc = true) (hsaddr : e.saddr = true) (hen : s.cfg.slaveEn = true) :
    eventStepOn e r s = closeStep s (addressMatch r e.rx s.closeChannel) := by
  rw [eventStepOn_slave hs (deliverable_of_bc hs hbc) he.1 hm,
    slaveEvent_address he hbc hsaddr hm hen]

/-- Outside the master states a plain byte goes to `slave_data(E)`, then the Stop if one came along. -/
theorem eventStepOn_slaveData (hs : s.receptive) (hm : s.bus.isMaster = false) (he : e.plain)
    (hbc : e.bc = true) (hsaddr : e.saddr = false) :
    eventStepOn e r s = closeStep s
      ((slaveData e r s).map fun t => if e.stop then t.closeChannel else t) := by
  rw [eventStepOn_slave hs (deliverable_of_bc hs hbc) he.1 hm, slaveEvent_data he hbc hsaddr]

theorem eventStepOn_slaveData_ok {t : State} (hs : s.receptive) (hm : s.bus.isMaster = false)
    (he : e.dataByte) (ht : slaveData e r s = .ok t) : eventStepOn e r s = .next t := by
  obtain ⟨hplain, hbc, hsaddr, hstop⟩ := he
  rw [eventStepOn_slaveData hs hm hplain hbc hsaddr, ht, hstop]
  rfl

/-! ### The byte in each slave state (40 R135 to R138) -/

theorem slaveData_swd (hb : s.bus = .swd) : slaveData e r s = slaveWriteByte r e.rx s := by
  simp [slaveData, hb]

theorem slaveData_srd_ack (hb : s.bus = .srd) (hn : e.nak = false) :
    slaveData e r s = slaveLoad r s := by
  simp [slaveData, hb, hn]

theorem slaveData_srd_nak (hb : s.bus = .srd) (hn : e.nak = true) :
    slaveData e r s = .ok s.slaveReadComplete := by
  simp [slaveData, hb, hn]

/-! ### The open channel closed (40 R127 to R129) -/

/-- Idle, with the status and the STOP_IE that closing the channel leaves. -/
def State.closedWith (s : State) (ss : SStat) (ie : Bool) : State :=
  { s with sstat := ss, stopIe := ie, bus := .idle }

theorem closeChannel_swd (hb : s.bus = .swd) :
    s.closeChannel = s.closedWith s.sstat.endWrite false := by
  simp [State.closeChannel, hb, State.slaveWriteComplete, State.closedWith]

theorem closeChannel_srd (hb : s.bus = .srd) :
    s.closeChannel = s.closedWith s.sstat.endRead s.stopIe := by
  simp [State.closeChannel, hb, State.slaveReadComplete, State.closedWith]

theorem closeChannel_idle (hb : s.bus = .idle) :
    s.closeChannel = s.closedWith s.sstat s.stopIe := by
  simp [State.closeChannel, hb, State.closedWith, setBus_self hb]

/-! ### The address byte (40 R130 to R134) -/

theorem addressMatch_mismatch {a : Byte} (h : addrPart a ≠ s.saddr) :
    addressMatch r a s = .ok { s with
      data := a, bus := .idle, actions := s.actions ++ [.nak] } :=
  if_neg h

theorem addressMatch_write {a : Byte} (h : addrPart a = s.saddr) (hd : dirPart a = .write) :
    addressMatch r a s = .ok { s with
      data := a
      sstat := { s.sstat with wrBusy := true }
      stopIe := true
      bus := .swd
      actions := s.actions ++ [.ack] } := by
  rw [addressMatch, if_pos h, hd]
  rfl

/-- The read channel is open and its address acknowledged (40 R131); the first byte is to come. -/
def State.readOpened (s : State) (a : Byte) : State :=
  { s with
    data := a
    sstat := { s.sstat with rdBusy := true }
    bus := .srd
    actions := s.actions ++ [.ack] }

theorem addressMatch_read {a : Byte} (h : addrPart a = s.saddr) (hd : dirPart a = .read) :
    addressMatch r a s = slaveLoad r (s.readOpened a) := by
  rw [addressMatch, if_pos h, hd]
  rfl

theorem addressMatch_read_exhausted {a : Byte} (h : addrPart a = s.saddr) (hd : dirPart a = .read)
    (hm : s.srd.more = false) :
    addressMatch r a s = .ok { s with
      data := sentinel
      sstat := { s.sstat with rdBusy := true, rdOvfl := true }
      bus := .srd
      actions := s.actions ++ [.ack, .tx sentinel] } := by
  rw [addressMatch_read h hd, slaveLoad_of_exhausted (s := s.readOpened a) hm,
    List.append_cons s.actions]
  rfl

theorem addressMatch_read_grant {a : Byte} (hbuf : s.BuffersOk) (h : addrPart a = s.saddr)
    (hd : dirPart a = .read) (hm : s.srd.more = true) :
    addressMatch .grant a s = .ok { s with
      data := s.portByte s.srd.addr
      sstat := { s.sstat with rdBusy := true }
      bus := .srd
      srd := ⟨s.srd.ptr, s.srd.cap, s.srd.idx + 1⟩
      memHist := s.memHist ++ [.read s.srd.addr]
      draws := s.drawsAfter (s.raceAlts s.srd.addr)
      actions := s.actions ++ [.ack, .tx (s.portByte s.srd.addr)] } := by
  have hopened : (s.readOpened a).BuffersOk := { hbuf with }
  rw [addressMatch_read h hd, slaveLoad_grant hopened hm, List.append_cons s.actions]
  rfl

theorem addressMatch_ne_desync (a : Byte) : addressMatch r a s ≠ .error .desync := by
  by_cases h : addrPart a = s.saddr
  · cases hd : dirPart a
    · simp [addressMatch_write h hd]
    · rw [addressMatch_read h hd]
      exact slaveLoad_ne_desync
  · simp [addressMatch_mismatch h]

theorem slaveLoad_bus {t : State} (h : slaveLoad r s = .ok t) : t.bus = s.bus := by
  cases hm : s.srd.more with
  | false =>
    rw [slaveLoad_of_exhausted hm] at h
    cases h
    rfl
  | true =>
    rw [slaveLoad_of_more hm] at h
    rw [memRead_map_ok h]
    rfl

/-- A matched address opens a channel (40 R131, R132). -/
theorem addressMatch_bus {a : Byte} {t : State} (h : addrPart a = s.saddr)
    (ht : addressMatch r a s = .ok t) : t.bus = .swd ∨ t.bus = .srd := by
  cases hd : dirPart a with
  | write =>
    rw [addressMatch_write h hd] at ht
    cases ht
    exact .inl rfl
  | read =>
    rw [addressMatch_read h hd] at ht
    exact .inr (slaveLoad_bus ht)

end

/-! ### The statements -/

/-- Settles O40: the open channel is closed, which leaves Idle, and then the address is matched. -/
theorem slaveAddressIsMatched : Obligations.SlaveAddressIsMatched := by
  unfold Obligations.SlaveAddressIsMatched
  intro s e r hs he hbc hsaddr hm hen ss ie
  have hclose : s.closeChannel = s.closedWith ss ie := by
    cases hb : s.bus
    case swd => simp [closeChannel_swd hb, ss, ie, hb, SStat.endWrite]
    case srd => simp [closeChannel_srd hb, ss, ie, hb, SStat.endRead]
    case idle => simp [closeChannel_idle hb, ss, ie, hb]
    all_goals simp [hb, BusState.isMaster] at hm
  rw [eventStepOn_slaveAddress hs hm he hbc hsaddr hen, hclose]
  refine ⟨fun ha => ?mismatch, fun ha hd => ?write, fun ha hd hle => ?sentinel,
    fun hinv hr ha hd hlt => ?read⟩
  case mismatch =>
    rw [addressMatch_mismatch (s := s.closedWith ss ie) ha]
    rfl
  case write =>
    rw [addressMatch_write (s := s.closedWith ss ie) ha hd]
    rfl
  case sentinel =>
    rw [addressMatch_read_exhausted (s := s.closedWith ss ie) ha hd ((not_more_iff _).mpr hle)]
    rfl
  case read =>
    obtain ⟨-, hbuf, -⟩ := inv_iff.mp hinv
    have hclosed : (s.closedWith ss ie).BuffersOk := { hbuf with }
    rw [hr, addressMatch_read_grant hclosed ha hd ((more_iff _).mpr hlt)]
    rfl

/-- Settles O41: at an ACK `slaveLoad` sends the next byte or the sentinel; the NAK completes the read. -/
theorem slaveReadSendsBufferThenSentinel : Obligations.SlaveReadSendsBufferThenSentinel := by
  unfold Obligations.SlaveReadSendsBufferThenSentinel
  intro s e hinv hs he hb
  obtain ⟨-, hbuf, -⟩ := inv_iff.mp hinv
  have hm : s.bus.isMaster = false := by rw [hb]; rfl
  refine ⟨fun hn hlt => ?_, fun hn hle => ?_, fun hn => ?_⟩
  · exact eventStepOn_slaveData_ok hs hm he
      ((slaveData_srd_ack hb hn).trans (slaveLoad_grant hbuf ((more_iff _).mpr hlt)))
  · exact eventStepOn_slaveData_ok hs hm he
      ((slaveData_srd_ack hb hn).trans (slaveLoad_of_exhausted ((not_more_iff _).mpr hle)))
  · exact eventStepOn_slaveData_ok hs hm he (slaveData_srd_nak hb hn)

/-- Settles O42: a byte is stored while room remains and discarded after; the Stop closes the channel. -/
theorem slaveWriteStoresOrOverflows : Obligations.SlaveWriteStoresOrOverflows := by
  unfold Obligations.SlaveWriteStoresOrOverflows
  intro s e hinv hs hb
  obtain ⟨-, hbuf, -⟩ := inv_iff.mp hinv
  have hm : s.bus.isMaster = false := by rw [hb]; rfl
  refine ⟨fun he hlt => ?store, fun he hle => ?overflow, fun hi he hbc hsaddr hstop => ?stop⟩
  case store =>
    obtain ⟨hframe, hbyte⟩ := read_engineStore hbuf s.swr.addr e.rx
    exact ⟨_, eventStepOn_slaveData_ok hs hm he ((slaveData_swd hb).trans
      (slaveWriteByte_grant hbuf ((more_iff _).mpr hlt) e.rx)), hframe, hbyte, rfl⟩
  case overflow =>
    exact eventStepOn_slaveData_ok hs hm he
      ((slaveData_swd hb).trans (slaveWriteByte_of_full ((not_more_iff _).mpr hle) e.rx))
  case stop =>
    rw [eventStepOn_slave hs (deliverable_of_stop hs hi hstop) he.1 hm,
      slaveEvent_stop he hbc hsaddr hstop, closeChannel_swd hb]
    rfl

/-- Settles O56: the PHY's side is the matcher's condition, so a channel is opened. -/
theorem hardwareDecodeAlwaysMatches : Obligations.HardwareDecodeAlwaysMatches := by
  unfold Obligations.HardwareDecodeAlwaysMatches
  intro s t w r hs hm hen hhw hphy he hbc hsaddr hstep
  have hmatch : addrPart (snapOf s.cfg w).rx = s.closeChannel.saddr := by
    rw [(EngineKeeps.closeChannel s).saddr]
    simpa [phyKeepsSide, hhw, hbc, hsaddr] using hphy
  have hclose : closeStep s (addressMatch r (snapOf s.cfg w).rx s.closeChannel) = .next t :=
    (eventStepOn_slaveAddress hs hm he hbc hsaddr hen).symm.trans hstep
  rcases closeStep_next hclose with hok | ⟨hdesync, -⟩
  · exact addressMatch_bus hmatch hok
  · exact absurd hdesync (addressMatch_ne_desync _)

end Sys2Proof.Machine
end

section
/-! A Stop that comes with a data byte (40_event_engine R107, R125, R127), and the loss of the bus with what
it carries along (R108). -/

namespace Sys2Proof.Machine

section
variable {s t : State} {e : Snap} {r : PortReply}

/-! ### A byte leaves the core in its role -/

theorem finishXfer_isMaster (hm : s.bus.isMaster = true) (d : Dir) :
    (s.finishXfer d).bus.isMaster = true := by
  unfold State.finishXfer
  split
  · rfl
  · exact hm

theorem addrNak_isMaster (hm : s.bus.isMaster = true) (d : Dir) :
    (s.addrNak d).bus.isMaster = true :=
  finishXfer_isMaster (s := { s with mstat := s.mstat.nakAddr }) hm d

theorem writeNak_isMaster (hm : s.bus.isMaster = true) : s.writeNak.bus.isMaster = true := by
  unfold State.writeNak
  split
  · exact finishXfer_isMaster (s := { s with mstat := s.mstat.shorten }) hm .write
  · exact finishXfer_isMaster hm .write

theorem addrAckRead_isMaster : s.addrAckRead.bus.isMaster = true := by
  unfold State.addrAckRead
  dsimp only
  split
  · rfl
  · exact finishXfer_isMaster (s := { s with bus := .mrd }) rfl .read

theorem readArbitrate_isMaster (hm : s.bus.isMaster = true) :
    s.readArbitrate.bus.isMaster = true := by
  unfold State.readArbitrate
  split
  · exact hm
  · exact finishXfer_isMaster (s := s.emit .nak) hm .read

theorem sendNext_isMaster (hm : s.bus.isMaster = true) (ht : sendNext r s = .ok t) :
    t.bus.isMaster = true := by
  cases hmore : s.mwr.more with
  | false =>
    rw [sendNext_of_exhausted hmore] at ht
    cases ht
    exact finishXfer_isMaster hm .write
  | true =>
    rw [sendNext_of_more hmore] at ht
    rw [memRead_map_ok ht]
    exact hm

theorem readByte_isMaster {v : Byte} (hm : s.bus.isMaster = true) (ht : readByte r v s = .ok t) :
    t.bus.isMaster = true := by
  cases hmore : s.mrd.more with
  | false =>
    rw [readByte_of_full hmore] at ht
    cases ht
  | true =>
    rw [readByte_of_more hmore] at ht
    rw [memWrite_map_ok ht]
    exact readArbitrate_isMaster hm

/-- A byte of a transfer leaves a master state. -/
theorem masterByte_isMaster (ht : masterByte e r s = .ok t) : t.bus.isMaster = true := by
  unfold masterByte at ht
  split at ht
  · cases ht
  · split at ht
    case h_1 hb =>
      split at ht
      · cases ht
        exact addrNak_isMaster (by rw [hb]; rfl) .write
      · exact sendNext_isMaster (s := { s with bus := .mwd }) rfl ht
    case h_2 hb =>
      cases ht
      split
      · exact addrNak_isMaster (by rw [hb]; rfl) .read
      · exact addrAckRead_isMaster
    case h_3 hb =>
      split at ht
      · cases ht
        exact writeNak_isMaster (by rw [hb]; rfl)
      · exact sendNext_isMaster (by rw [hb]; rfl) ht
    case h_4 hb => exact readByte_isMaster (by rw [hb]; rfl) ht
    all_goals cases ht

theorem slaveWriteByte_bus {v : Byte} (ht : slaveWriteByte r v s = .ok t) : t.bus = s.bus := by
  cases hm : s.swr.more with
  | false =>
    rw [slaveWriteByte_of_full hm] at ht
    cases ht
    rfl
  | true =>
    rw [slaveWriteByte_of_more hm] at ht
    rw [memWrite_map_ok ht]
    rfl

/-! ### The Stop after the byte -/

theorem takeDesync_sets_fault (s : State) :
    s.takeDesync.fatal = true ∨ s.takeDesync.desync = true := by
  unfold State.takeDesync
  split
  · exact .inr rfl
  · exact .inl rfl

/-- A data byte's step that ends in no fault took the byte. -/
theorem masterByte_of_next (hs : s.inFlight) (hm : s.bus.isMaster = true) (he : e.dataByte)
    (h : eventStepOn e r s = .next t) (hf : t.fatal = false) (hd : t.desync = false) :
    masterByte e r s = .ok t := by
  obtain ⟨hplain, hbc, hsaddr, hstop⟩ := he
  rw [eventStepOn_masterByte hs.1 hm hplain hbc hsaddr, hstop] at h
  rcases closeStep_next h with hok | ⟨-, rfl⟩
  · cases hx : masterByte e r s <;> simp_all [Except.map]
  · rcases takeDesync_sets_fault s with hset | hset <;> simp_all

/-- The step of the byte and its Stop is the byte's step, then the Stop's. -/
theorem eventStepOn_masterByte_stop (hs : s.inFlight) (hm : s.bus.isMaster = true) (he : e.dataByte)
    (ht : masterByte e r s = .ok t) :
    eventStepOn { e with stop := true } r s = .next t.masterStop := by
  obtain ⟨hplain, hbc, hsaddr, -⟩ := he
  have ht : masterByte { e with stop := true } r s = .ok t := ht
  rw [eventStepOn_masterByte (e := { e with stop := true }) hs.1 hm hplain hbc hsaddr, ht]
  rfl

/-- In a slave state a data byte never desyncs (40 R135, R137). -/
theorem slaveData_ne_desync (hb : s.bus = .swd ∨ s.bus = .srd) :
    slaveData e r s ≠ .error .desync := by
  rcases hb with hb | hb
  · rw [slaveData_swd hb]
    exact slaveWriteByte_ne_desync _
  · cases hn : e.nak
    · rw [slaveData_srd_ack hb hn]
      exact slaveLoad_ne_desync
    · simp [slaveData_srd_nak hb hn]

/-- A data byte's step in a slave state takes the byte; with a Stop, the channel that is then open is
closed. -/
theorem slaveData_then_stop (hs : s.receptive) (hb : s.bus = .swd ∨ s.bus = .srd) (he : e.dataByte)
    (h : eventStepOn e r s = .next t) :
    slaveData e r s = .ok t ∧ eventStepOn { e with stop := true } r s = .next t.closeChannel := by
  obtain ⟨hplain, hbc, hsaddr, hstop⟩ := he
  have hm : s.bus.isMaster = false := by rcases hb with hb | hb <;> rw [hb] <;> rfl
  have hne : slaveData e r s ≠ .error .desync := slaveData_ne_desync hb
  have hdata : slaveData e r s = .ok t := by
    rw [eventStepOn_slaveData hs hm hplain hbc hsaddr, hstop] at h
    rcases closeStep_next h with hok | ⟨hdesync, -⟩ <;>
      cases hx : slaveData e r s <;> simp_all [Except.map]
  refine ⟨hdata, ?_⟩
  have hdata : slaveData { e with stop := true } r s = .ok t := hdata
  rw [eventStepOn_slaveData (e := { e with stop := true }) hs hm hplain hbc hsaddr, hdata]
  rfl

/-! ### The loss of the bus -/

/-- The state in which the address path is entered after the bus was lost (40 R108). -/
def State.busLost (s : State) (lost : Bool) : State :=
  { s with
    mstat := s.mstat.loseBus lost
    actions := s.actions ++ (if lost = true then [.release] else [])
    stopIe := false
    bus := .idle }

/-- Lost arbitration ends a transfer in any of its states, a Start abort in an address state. -/
theorem masterEvent_arb (hx : s.mstat.xferInp = true) (hmh : s.bus ≠ .mh)
    (harb : e.lostArb = true ∨ (e.startAbort = true ∧ s.bus.awaitsAddress = true)) :
    masterEvent e r s = matchAfterLoss e r (s.busLost e.lostArb) := by
  have hgate : (e.lostArb || e.startAbort) = true := by
    rcases harb with h | ⟨h, -⟩ <;> simp [h]
  have hawaits : (!e.lostArb && !s.bus.awaitsAddress) = false := by
    rcases harb with h | ⟨-, h⟩ <;> simp [h]
  rw [masterEvent, if_pos hgate, arbEvent, if_neg (by simp [hx, hmh]), if_neg (by simp [hawaits])]
  cases hl : e.lostArb
  · simp [State.busLost]
  · rfl

theorem matchAfterLoss_address (hbc : e.bc = true) (hsaddr : e.saddr = true)
    (hen : s.cfg.slaveEn = true) : matchAfterLoss e r s = addressMatch r e.rx s :=
  if_pos (by simp [hbc, hsaddr, hen])

theorem matchAfterLoss_none (h : e.bc = false ∨ e.saddr = false ∨ s.cfg.slaveEn = false) :
    matchAfterLoss e r s = .ok s :=
  if_neg (by rcases h with h | h | h <;> simp [h])

/-- Only a desync looks at the state before the step. -/
theorem closeStep_congr {x : Except Abort State} (h : x ≠ .error .desync) :
    closeStep s x = closeStep t x := by
  rcases x with (_ | _ | _) | _
  · exact absurd rfl h
  all_goals rfl

end

/-! ### The statements -/

/-- Settles O38: the byte's own step leaves a master state, the open channel, or Idle after a slave read's
NAK, and the Stop is processed there. -/
theorem stopWithAByteComesAfterTheByte : Obligations.StopWithAByteComesAfterTheByte := by
  unfold Obligations.StopWithAByteComesAfterTheByte
  refine ⟨fun s t e r hs he hm h hf hd => ?master, fun s t e r hs he h =>
    ⟨fun hb => ?write, fun hb hn => ?read, fun hb hn => ?ended⟩⟩
  case master =>
    have hbyte := masterByte_of_next hs hm he h hf hd
    have hmaster := masterByte_isMaster hbyte
    rw [eventStepOn_masterByte_stop hs hm he hbyte, State.masterStop]
    cases hb : t.bus
    case mwa => rw [stopDir_writing (.inl hb)]; rfl
    case mwd => rw [stopDir_writing (.inr hb)]; rfl
    case mra => rw [stopDir_reading (.inl hb)]; rfl
    case mrd => rw [stopDir_reading (.inr hb)]; rfl
    case mh => rw [stopDir_halted hb]; cases t.mmode.dir <;> rfl
    all_goals simp [hb, BusState.isMaster] at hmaster
  case write =>
    obtain ⟨hdata, hstop⟩ := slaveData_then_stop hs (.inl hb) he h
    have hbus : t.bus = .swd := (slaveWriteByte_bus ((slaveData_swd hb).symm.trans hdata)).trans hb
    rw [hstop, closeChannel_swd hbus]
    rfl
  case read =>
    obtain ⟨hdata, hstop⟩ := slaveData_then_stop hs (.inr hb) he h
    have hbus : t.bus = .srd := (slaveLoad_bus ((slaveData_srd_ack hb hn).symm.trans hdata)).trans hb
    rw [hstop, closeChannel_srd hbus]
    rfl
  case ended =>
    obtain ⟨hdata, hstop⟩ := slaveData_then_stop hs (.inr hb) he h
    rw [slaveData_srd_nak hb hn] at hdata
    cases hdata
    exact hstop

/-- Settles O39: the core is Idle with the error bits, and a slave address carried along meets it there. -/
theorem losingTheBusEndsTheTransfer : Obligations.LosingTheBusEndsTheTransfer := by
  unfold Obligations.LosingTheBusEndsTheTransfer
  intro s e r hs hx hmh hm ht harb t
  have hd : s.deliverable e = true := deliverable_of_arb hs (harb.imp_right And.left)
  have hawaits : e.lostArb = true ∨ (e.startAbort = true ∧ s.bus.awaitsAddress = true) :=
    harb.imp_right fun ⟨habort, hb⟩ => ⟨habort, by rcases hb with hb | hb <;> rw [hb] <;> rfl⟩
  have hstep : eventStepOn e r s = closeStep s (matchAfterLoss e r t) := by
    rw [eventStepOn_master hs hd ht hm, masterEvent_arb hx hmh hawaits]
    rfl
  refine ⟨fun hnone => ?_, fun hbc hsaddr hen => ?_⟩
  · rw [hstep, matchAfterLoss_none (s := t) hnone]
    rfl
  · have hbare : eventStepOn ⟨true, true, false, false, false, false, false, e.rx⟩ r t =
        closeStep t (addressMatch r e.rx t) :=
      eventStepOn_slaveAddress hs rfl ⟨rfl, rfl, rfl⟩ rfl rfl hen
    rw [hstep, matchAfterLoss_address (s := t) hbc hsaddr hen, hbare]
    exact closeStep_congr (addressMatch_ne_desync _)

end Sys2Proof.Machine
end

section
/-! What the event engine never writes (40_event_engine R142): CMDSTAT and RDATA outside the manual waits,
beside the elements that `EngineKeeps` names. -/

namespace Sys2Proof.Machine

/-- What commands leave for the host to read: CMDSTAT and RDATA (10_state R25, R26). -/
def State.answer (s : State) : CmdStat × Word := (s.cmdstat, s.rdata)

section
variable {s t : State} {e : Snap} {r : PortReply}

/-! ### The shared operations -/

/-- With no command pending the recovery ends none (40 R104). -/
theorem answer_timeoutRecover (hy : s.cmdstat.busy = false) : s.timeoutRecover.answer = s.answer := by
  simp [timeoutRecover_eq, State.answer, hy]

/-! ### The slave role -/

theorem answer_closeChannel : s.closeChannel.answer = s.answer := by
  unfold State.closeChannel
  split <;> rfl

theorem answer_closeChannel_if (b : Bool) :
    (if b then s.closeChannel else s).answer = s.answer := by
  split
  · exact answer_closeChannel
  · rfl

theorem answer_slaveLoad (h : slaveLoad r s = .ok t) : t.answer = s.answer := by
  cases hm : s.srd.more with
  | false =>
    rw [slaveLoad_of_exhausted hm] at h
    cases h
    rfl
  | true =>
    rw [slaveLoad_of_more hm] at h
    rw [memRead_map_ok h]
    rfl

theorem answer_slaveWriteByte {b : Byte} (h : slaveWriteByte r b s = .ok t) :
    t.answer = s.answer := by
  cases hm : s.swr.more with
  | false =>
    rw [slaveWriteByte_of_full hm] at h
    cases h
    rfl
  | true =>
    rw [slaveWriteByte_of_more hm] at h
    rw [memWrite_map_ok h]
    rfl

theorem answer_addressMatch {a : Byte} (h : addressMatch r a s = .ok t) : t.answer = s.answer := by
  by_cases ha : addrPart a = s.saddr
  · cases hd : dirPart a with
    | write =>
      rw [addressMatch_write ha hd] at h
      cases h
      rfl
    | read =>
      rw [addressMatch_read ha hd] at h
      exact (answer_slaveLoad h).trans rfl
  · rw [addressMatch_mismatch ha] at h
    cases h
    rfl

theorem answer_slaveData (h : slaveData e r s = .ok t) : t.answer = s.answer := by
  unfold slaveData at h
  split at h
  case h_1 =>
    split at h
    · cases h
      rfl
    · exact answer_slaveLoad h
  case h_2 => exact answer_slaveWriteByte h
  all_goals cases h

theorem answer_slaveEvent (h : slaveEvent e r s = .ok t) : t.answer = s.answer := by
  unfold slaveEvent at h
  split at h
  · cases h
  · split at h
    · split at h
      · cases h
      · exact (answer_addressMatch h).trans (answer_closeChannel.trans (answer_closeChannel_if _))
    · split at h
      · split at h <;> cases h
        case h_2 hdata => exact (answer_closeChannel_if _).trans (answer_slaveData hdata)
      · split at h
        · cases h
        · split at h <;> cases h
          · exact answer_closeChannel
          · rfl

/-! ### The master role -/

theorem answer_finishXfer (d : Dir) : (s.finishXfer d).answer = s.answer := by
  unfold State.finishXfer
  split <;> rfl

theorem answer_addrNak (d : Dir) : (s.addrNak d).answer = s.answer :=
  answer_finishXfer (s := { s with mstat := s.mstat.nakAddr }) d

theorem answer_addrAckRead : s.addrAckRead.answer = s.answer := by
  unfold State.addrAckRead
  dsimp only
  split
  · rfl
  · exact answer_finishXfer (s := { s with bus := .mrd }) .read

theorem answer_writeNak : s.writeNak.answer = s.answer := by
  unfold State.writeNak
  split
  · exact answer_finishXfer (s := { s with mstat := s.mstat.shorten }) .write
  · exact answer_finishXfer .write

theorem answer_readArbitrate : s.readArbitrate.answer = s.answer := by
  unfold State.readArbitrate
  split
  · rfl
  · exact answer_finishXfer (s := s.emit .nak) .read

theorem answer_sendNext (h : sendNext r s = .ok t) : t.answer = s.answer := by
  cases hm : s.mwr.more with
  | false =>
    rw [sendNext_of_exhausted hm] at h
    cases h
    exact answer_finishXfer .write
  | true =>
    rw [sendNext_of_more hm] at h
    rw [memRead_map_ok h]
    rfl

theorem answer_readByte {b : Byte} (h : readByte r b s = .ok t) : t.answer = s.answer := by
  cases hm : s.mrd.more with
  | false =>
    rw [readByte_of_full hm] at h
    cases h
  | true =>
    rw [readByte_of_more hm] at h
    rw [memWrite_map_ok h]
    exact answer_readArbitrate

theorem answer_masterByte (h : masterByte e r s = .ok t) : t.answer = s.answer := by
  unfold masterByte at h
  split at h
  · cases h
  · split at h
    case h_1 =>
      split at h
      · cases h
        exact answer_addrNak .write
      · exact (answer_sendNext h).trans rfl
    case h_2 =>
      cases h
      split
      · exact answer_addrNak .read
      · exact answer_addrAckRead
    case h_3 =>
      split at h
      · cases h
        exact answer_writeNak
      · exact answer_sendNext h
    case h_4 => exact answer_readByte h
    all_goals cases h

theorem answer_matchAfterLoss (h : matchAfterLoss e r s = .ok t) : t.answer = s.answer := by
  unfold matchAfterLoss at h
  split at h
  · exact answer_addressMatch h
  · cases h
    rfl

theorem answer_arbEvent (h : arbEvent e r s = .ok t) : t.answer = s.answer := by
  unfold arbEvent at h
  split at h
  · cases h
  · split at h
    · cases h
    · dsimp only at h
      split at h
      · exact (answer_matchAfterLoss h).trans rfl
      · exact (answer_matchAfterLoss h).trans rfl

theorem answer_masterEvent (h : masterEvent e r s = .ok t) : t.answer = s.answer := by
  unfold masterEvent at h
  split at h
  · exact answer_arbEvent h
  · split at h
    · cases h
    · split at h <;> cases h
      case h_2 u hbyte =>
        have hstop : (if e.stop then u.masterStop else u).answer = u.answer := by split <;> rfl
        refine hstop.trans ?_
        split at hbyte
        · exact answer_masterByte hbyte
        · cases hbyte
          rfl

/-- With no manual command pending no handler writes CMDSTAT or RDATA. -/
theorem answer_handle (hy : s.cmdstat.busy = false) (h : handle e r s = .ok t) :
    t.answer = s.answer := by
  unfold handle at h
  split at h
  · cases h
    exact answer_timeoutRecover hy
  · split at h
    · cases h
      rfl
    · split at h
      case isTrue hbusy => simp [hy] at hbusy
      case isFalse =>
        split at h
        · exact answer_masterEvent h
        · exact answer_slaveEvent h

/-- A desync writes the two fault flags alone. -/
theorem takeDesync_eq (s : State) : ∃ f d, s.takeDesync = { s with fatal := f, desync := d } := by
  unfold State.takeDesync
  split
  · exact ⟨s.fatal, true, rfl⟩
  · exact ⟨true, s.desync, rfl⟩

end

/-- Settles O46: handling a snapshot keeps what `EngineKeeps` and `State.answer` name, and a desync sets a
fault alone. -/
theorem eventEngineFrame : Obligations.EventEngineFrame := by
  unfold Obligations.EventEngineFrame
  intro s t w r h
  rcases eventStepOn_next h with ⟨-, rfl⟩ | ⟨-, hh⟩ | ⟨-, -, rfl⟩
  · simp
  · have k := EngineKeeps.handle hh
    exact ⟨k.ptr, k.cnt, k.saddr, k.mmode, k.clkdiv, k.en, k.inited, k.ovr, k.lastop, k.marg, k.cfg,
      fun b => ⟨k.bufPtr b, k.bufCap b⟩, fun hy => Prod.mk.inj (answer_handle hy hh)⟩
  · obtain ⟨f, d, ht⟩ := takeDesync_eq s
    rw [ht]
    have hbuf (b : BufId) : { s with fatal := f, desync := d }.buf b = s.buf b := by cases b <;> rfl
    exact ⟨rfl, rfl, rfl, rfl, rfl, rfl, rfl, rfl, rfl, rfl, rfl,
      fun b => by rw [hbuf]; exact ⟨rfl, rfl⟩, fun _ => ⟨rfl, rfl⟩⟩

end Sys2Proof.Machine
end

section
/-! The run of a buffered write (95_test_vectors W2): one step for each byte acknowledged, one for the Stop
requested, one for the Stop. -/

namespace Sys2Proof.Machine

/-- The input of one acknowledged byte, and that of the Stop. -/
def ackInput (level : Bool) : Input := ⟨level, .snapshot 0x0001#16 .grant⟩

/-- See `ackInput`. -/
def stopInput (level : Bool) : Input := ⟨level, .snapshot 0x0010#16 .grant⟩

/-- What a buffered write has ahead of it: `m` bytes from its index on, no race, and the snapshots that
acknowledge them and complete it. -/
structure State.Writing (s : State) (level : Bool) (rest : List Input) (m : Nat) : Prop where
  inv : s.Inv
  flight : s.inFlight
  bus : s.bus = .mwa ∨ s.bus = .mwd
  left : s.mwr.idx.toNat + m = s.mwr.cap.toNat
  withStop : s.mmode.mode.noStop = false
  noRace : s.races = []
  inputs : s.inputs = List.replicate (m + 1) (ackInput level) ++ stopInput level :: rest

section
variable {s t : State} {level : Bool} {rest : List Input} {m n : Nat}

theorem run_succ (h : step s = .next t) : core.run (n + 1) s = core.run n t := by
  simp only [Host.Core.run, show core.step s = .next t from h]

/-- The first snapshot is a data byte acknowledged. -/
theorem snapOf_ack (c : Config) :
    (snapOf c 0x0001#16).dataByte ∧ (snapOf c 0x0001#16).nak = false := by
  have h : snapOf c 0x0001#16 = ⟨true, false, false, false, false, false, false, 0⟩ := by
    simp [snapOf]
  rw [h]
  exact ⟨⟨⟨rfl, rfl, rfl⟩, rfl, rfl, rfl⟩, rfl⟩

/-- The second is a bare Stop. -/
theorem snapOf_stop (c : Config) :
    (snapOf c 0x0010#16).plain ∧ (snapOf c 0x0010#16).bc = false ∧
      (snapOf c 0x0010#16).saddr = false ∧ (snapOf c 0x0010#16).stop = true := by
  have h : snapOf c 0x0010#16 = ⟨false, false, false, false, true, false, false, 0⟩ := by
    simp [snapOf]
  rw [h]
  exact ⟨⟨rfl, rfl, rfl⟩, rfl, rfl, rfl⟩

/-- The step that takes a snapshot is its event step, where no race is left to settle. -/
theorem step_of_snapshot {w : SnapWord} {r : PortReply}
    (hi : s.inputs = ⟨level, .snapshot w r⟩ :: rest)
    (h : eventStep w r (s.takeInput ⟨level, .snapshot w r⟩ rest) = .next t) (ht : t.races = []) :
    step s = .next t := by
  have hsettle : t.dropSettledRaces = t := by
    simp only [State.dropSettledRaces, ht, List.filter_nil]
    rw [← ht]
  rw [step_of_inputs_cons hi]
  exact (congrArg settle h).trans (congrArg Host.Outcome.next hsettle)

/-- An acknowledged byte with `m + 1` left sends the next one and leaves `m`. -/
theorem State.Writing.step_byte (h : s.Writing level rest (m + 1)) :
    ∃ t, step s = .next t ∧ t.Writing level rest m ∧ t.mem = s.mem ∧ t.mstat = s.mstat ∧
      t.mwr.addr = s.mwr.addr + 1 ∧ t.mwr.ptr = s.mwr.ptr ∧
      t.actions = s.actions ++ [.tx (Memory.read s.mem s.mwr.addr)] := by
  let tail := List.replicate (m + 1) (ackInput level) ++ stopInput level :: rest
  let u := s.takeInput (ackInput level) tail
  have hlt : u.mwr.idx.toNat < u.mwr.cap.toNat := by
    have hleft : u.mwr.idx.toNat + (m + 1) = u.mwr.cap.toNat := h.left
    omega
  have hbyte : u.portByte u.mwr.addr = Memory.read s.mem s.mwr.addr := by
    rw [State.portByte, raceAlts_of_no_races (s := u) h.noRace, pick_nil]
    rfl
  obtain ⟨hdata, hnak⟩ := snapOf_ack u.cfg
  have hevent := masterWriteSendsTheNextByte u _ { h.inv with } h.flight hdata hnak h.bus hlt
  have hstep := step_of_snapshot h.inputs hevent h.noRace
  have hidx : (s.mwr.idx + 1).toNat = s.mwr.idx.toNat + 1 := idx_succ_toNat ((more_iff _).mpr hlt)
  refine ⟨_, hstep, ?writing, rfl, rfl, ?addr, rfl, ?sent⟩
  case writing =>
    exact {
      inv := everyStepKeepsTheInvariants s _ h.inv hstep
      flight := h.flight
      bus := .inr rfl
      left := by
        have hleft := h.left
        change (s.mwr.idx + 1).toNat + m = s.mwr.cap.toNat
        omega
      withStop := h.withStop
      noRace := h.noRace
      inputs := rfl }
  case addr =>
    change s.mwr.ptr.toNat + (s.mwr.idx + 1).toNat = s.mwr.ptr.toNat + s.mwr.idx.toNat + 1
    omega
  case sent => exact congrArg (fun b => s.actions ++ [.tx b]) hbyte

/-- With no byte left the acknowledgement requests the Stop, and the Stop completes the write. -/
theorem State.Writing.run_stop (h : s.Writing level rest 0) :
    core.run 2 s = .next { s with
      busBusy := level
      inputs := rest
      mstat := { s.mstat with wrCmplt := true, xferInp := false }
      stopIe := false
      bus := .idle
      actions := s.actions ++ [.stop] } := by
  let u := s.takeInput (ackInput level) (stopInput level :: rest)
  let v : State := { u with bus := .mwd, actions := s.actions ++ [.stop], stopIe := true }
  have hle : u.mwr.cap.toNat ≤ u.mwr.idx.toNat := Nat.le_of_eq h.left.symm
  have hack : step s = .next v := by
    obtain ⟨hdata, hnak⟩ := snapOf_ack u.cfg
    have hbus : u.bus = .mwd ∨ (u.bus = .mwa ∧ (snapOf u.cfg 0x0001#16).nak = false) :=
      h.bus.symm.imp_right fun hb => ⟨hb, hnak⟩
    obtain ⟨hevent, -⟩ :=
      masterWriteFinishesAfterTheLastByte u _ .grant h.flight hdata hbus hle
    exact step_of_snapshot h.inputs (hevent h.withStop) h.noRace
  let x := v.takeInput (stopInput level) rest
  obtain ⟨hplain, hbc, hsaddr, hstop⟩ := snapOf_stop x.cfg
  obtain ⟨hevent, -⟩ := stopCompletesTheMasterTransfer x _ .grant h.flight.1 rfl hplain hbc hsaddr hstop
  have hlast := step_of_snapshot (s := v) rfl (hevent (.inr rfl)) h.noRace
  rw [run_succ hack, run_succ hlast]
  rfl

/-- What the completed write of `m` bytes has changed, from its index in `s` on. -/
structure State.Written (s t : State) (rest : List Input) (m : Nat) : Prop where
  bus : t.bus = .idle
  stopIe : t.stopIe = false
  addr : t.mwr.addr = s.mwr.addr + m
  ptr : t.mwr.ptr = s.mwr.ptr
  mstat : t.mstat = { s.mstat with wrCmplt := true, xferInp := false }
  mem : t.mem = s.mem
  inputs : t.inputs = rest
  actions : t.actions = s.actions ++
    (List.range m).map (fun k => Action.tx (Memory.read s.mem (s.mwr.addr + k))) ++ [.stop]

/-- The whole run, by induction on the bytes left. -/
theorem State.Writing.run (h : s.Writing level rest m) :
    ∃ t, core.run (m + 2) s = .next t ∧ s.Written t rest m := by
  induction m generalizing s with
  | zero =>
    exact ⟨_, h.run_stop, rfl, rfl, rfl, rfl, rfl, rfl, rfl, by simp⟩
  | succ m ih =>
    obtain ⟨u, hstep, hu, hmem, hmstat, haddr, hptr, hsent⟩ := h.step_byte
    obtain ⟨t, hrun, k⟩ := ih hu
    refine ⟨t, (run_succ hstep).trans hrun, k.bus, k.stopIe, ?addr, k.ptr.trans hptr, ?mstat,
      k.mem.trans hmem, k.inputs, ?actions⟩
    case addr =>
      have hend := k.addr
      omega
    case mstat => rw [k.mstat, hmstat]
    case actions =>
      rw [k.actions, hsent, hmem, haddr, List.range_succ_eq_map]
      simp [Function.comp_def, Nat.add_assoc, Nat.add_comm]

end

/-- Settles O60: the run of the `n` bytes of the buffer, from index 0. -/
theorem bufferedWriteRunsToCompletion : Obligations.BufferedWriteRunsToCompletion := by
  unfold Obligations.BufferedWriteRunsToCompletion
  intro s level rest n hinv hs hb hidx hcap hstop hraces hinputs
  have hstart : s.mwr.addr = s.mwr.ptr.toNat := by simp [Desc.addr, hidx]
  have hwriting : s.Writing level rest n := {
    inv := hinv
    flight := hs
    bus := .inl hb
    left := by simp [hidx, hcap]
    withStop := hstop
    noRace := hraces
    inputs := hinputs }
  obtain ⟨t, hrun, k⟩ := hwriting.run
  refine ⟨t, hrun, k.bus, k.stopIe, ?idx, k.mstat, k.mem, k.inputs, hstart ▸ k.actions⟩
  have haddr := k.addr
  rw [Desc.addr, k.ptr, hstart] at haddr
  omega

end Sys2Proof.Machine
end

section
/-! The master buffered, status and buffer commands (41_master_buffered R160 to R169): arming passes or is
refused, and the other commands answer in one step. -/

namespace Sys2Proof.Machine

/-! ### Arming -/

/-- What `buf_arm` checks before it looks at the bus's level (41 R160): a command that fails here is
refused with NOT_READY, whichever check it was. -/
structure State.ArmReady (s : State) (m : TransferMode) : Prop where
  en : s.en = true
  bus : (s.bus = .idle ∧ m.repeatStart = false) ∨ (s.bus = .mh ∧ m.repeatStart = true)
  ptr : s.ptr ≠ 0
  fits : s.ptr.toNat + s.cnt.toNat ≤ 2 ^ s.cfg.aw

section
variable {s : State} {m : TransferMode}

theorem bufArmRefusal_of_ready (h : s.ArmReady m) :
    bufArmRefusal m s = if s.bus = .idle ∧ s.busBusy then some .busBusy else none := by
  have hfits := (bufferFits_iff ..).mpr h.fits
  have hptr : s.ptr ≠ 0#32 := h.ptr
  obtain ⟨hb, hm⟩ | ⟨hb, hm⟩ := h.bus <;> simp [bufArmRefusal, h.en, hptr, hfits, hb, hm]

theorem bufArmRefusal_of_not_ready (h : ¬ s.ArmReady m) : bufArmRefusal m s = some .notReady := by
  unfold bufArmRefusal
  split_ifs with hen hbus hmode hbuf hbusy
  iterate 4 rfl
  all_goals
    obtain ⟨hptr, hfits⟩ := not_or.mp hbuf
    refine absurd ⟨by simpa using hen, ?_, hptr, (bufferFits_iff ..).mp (by simpa using hfits)⟩ h
    obtain hb | hb : s.bus = .idle ∨ s.bus = .mh := by simpa [or_iff_not_imp_left] using hbus
    · exact .inl ⟨hb, by simpa [hb] using hmode⟩
    · exact .inr ⟨hb, by simpa [hb] using hmode⟩

/-- From Idle the bus must be free; from Halted it is held already. -/
theorem bufArmRefusal_eq_none (h : s.ArmReady m) (hfree : s.bus = .idle → s.busBusy = false) :
    bufArmRefusal m s = none := by
  rw [bufArmRefusal_of_ready h]
  exact if_neg fun ⟨hb, hbusy⟩ => by simp [hfree hb] at hbusy

theorem bufArm_of_refusal {c : ResultCode} (h : bufArmRefusal m s = some c) (d : Dir) (a7 : Addr7) :
    bufArm d a7 m s = s.finish c := by
  simp only [bufArm, h]

theorem bufArm_of_passed (h : bufArmRefusal m s = none) (d : Dir) (a7 : Addr7) :
    bufArm d a7 m s = (s.armedWith d a7 m
      (if s.bus = .idle then .start (addrByte a7 d) else .restart (addrByte a7 d))).finish .noError := by
  simp only [bufArm, h, armed_eq_armedWith]

theorem exec_buffered_of_refusal {c : ResultCode} {a7 : Addr7} {i : Instr}
    (hi : i = .masterWriteBuf a7 m ∨ i = .masterReadBuf a7 m) (h : bufArmRefusal m s = some c) :
    exec i s = .next (s.finish c) := by
  obtain rfl | rfl := hi
  · exact congrArg Host.Outcome.next (bufArm_of_refusal h .write a7)
  · exact congrArg Host.Outcome.next (bufArm_of_refusal h .read a7)

end

/-- Settles O12: every check passes, and each direction arms the descriptor that `masterBuf` names. -/
theorem bufferedCommandsArm : Obligations.BufferedCommandsArm := by
  unfold Obligations.BufferedCommandsArm
  intro s a7 m hen hptr hfits hbus
  have hready : s.ArmReady m := ⟨hen, hbus.imp_left fun ⟨hb, _, hm⟩ => ⟨hb, hm⟩, hptr, hfits⟩
  have hfree : s.bus = .idle → s.busBusy = false := fun hidle =>
    hbus.elim (fun h => h.2.1) fun ⟨hmh, _⟩ => absurd (hidle.symm.trans hmh) (by decide)
  have hpassed := bufArmRefusal_eq_none hready hfree
  exact ⟨congrArg Host.Outcome.next (bufArm_of_passed hpassed .write a7),
    congrArg Host.Outcome.next (bufArm_of_passed hpassed .read a7)⟩

/-- Settles O13: each NOT_READY clause contradicts `ArmReady`, and BUS_BUSY is left once it holds. -/
theorem bufferedRefusalsInCheckOrder : Obligations.BufferedRefusalsInCheckOrder := by
  unfold Obligations.BufferedRefusalsInCheckOrder
  intro s a7 m i hi refused
  have notReady (h : ¬ s.ArmReady m) : exec i s = refused .notReady :=
    exec_buffered_of_refusal hi (bufArmRefusal_of_not_ready h)
  refine ⟨fun hen => ?disabled, fun hidle hmh => ?otherState, fun hidle hm => ?restartFromIdle,
    fun hmh hm => ?startFromHalted, fun hbuf => ?badBuffer,
    fun hen hidle hm hptr hfits hbusy => ?busBusy⟩
  case disabled => exact notReady fun h => by simp [h.en] at hen
  case otherState =>
    exact notReady fun h => h.bus.elim (fun ⟨hb, _⟩ => hidle hb) fun ⟨hb, _⟩ => hmh hb
  case restartFromIdle => exact notReady fun h => by simpa [hidle, hm] using h.bus
  case startFromHalted => exact notReady fun h => by simpa [hmh, hm] using h.bus
  case badBuffer => exact notReady fun h => hbuf.elim h.ptr h.fits.not_gt
  case busBusy =>
    refine exec_buffered_of_refusal hi ?_
    rw [bufArmRefusal_of_ready ⟨hen, .inl ⟨hidle, hm⟩, hptr, hfits⟩]
    exact if_pos ⟨hidle, hbusy⟩

/-! ### The status and buffer commands -/

/-- The mask of R164, for each value of the eight flags. -/
theorem clearSticky_toByte (m : MStat) : m.clearSticky.toByte = m.toByte &&& 0x04#8 := by
  obtain ⟨rdCmplt, wrCmplt, xferInp, xferHalt, errShortXfer, errAddrNak, errArbLost, errXfer⟩ := m
  decide +revert

/-- Settles O14: RDATA is MSTAT as it was, and clearing masks its byte and does so once. -/
theorem masterStatusCommandsReturnMstat : Obligations.MasterStatusCommandsReturnMstat := by
  unfold Obligations.MasterStatusCommandsReturnMstat
  intro s
  refine ⟨⟨_, rfl, rfl, rfl⟩, _, rfl, rfl, ?_, rfl, rfl⟩
  change s.mstat.clearSticky.toByte.setWidth 32 = s.mstat.toByte.setWidth 32 &&& 0x04#32
  rw [clearSticky_toByte, BitVec.setWidth_and]
  rfl

/-- Settles O15: `returnSize` and `clearIdx` at the two master descriptors. -/
theorem masterBufferAccessors : Obligations.MasterBufferAccessors := by
  unfold Obligations.MasterBufferAccessors
  exact fun s => ⟨rfl, rfl, rfl, rfl⟩

end Sys2Proof.Machine
end

section
/-! The master manual commands at issue (42_master_manual R190 to R195): what becomes pending from each start
state, and what every other state refuses. -/

namespace Sys2Proof.Machine

/-- The five manual commands (42 R190). -/
inductive ManualCommand : Instr → Prop
  | sendStart (a7 : Addr7) (rw : Dir) : ManualCommand (.masterSendStart a7 rw)
  | sendRestart (a7 : Addr7) (rw : Dir) : ManualCommand (.masterSendRestart a7 rw)
  | sendStop : ManualCommand .masterSendStop
  | writeByte (d : Byte) : ManualCommand (.masterWriteByte d)
  | readByte (k : Bool) : ManualCommand (.masterReadByte k)

/-- The bus states in which a manual command may start (42 R191 to R195). -/
def startsManual : Instr → BusState → Bool
  | .masterSendStart _ _, b => b == .idle
  | .masterSendRestart _ _, b | .masterSendStop, b => b.holdsBus
  | .masterWriteByte _, b => b == .mwd
  | .masterReadByte _, b => b == .mrd
  | _, _ => false

theorem BusState.holdsBus_iff {b : BusState} :
    b.holdsBus = true ↔ b = .mwd ∨ b = .mrd ∨ b = .mh := by
  cases b <;> simp [BusState.holdsBus]

theorem BusState.holdsBus_eq_false {b : BusState} (hmwd : b ≠ .mwd) (hmrd : b ≠ .mrd)
    (hmh : b ≠ .mh) : b.holdsBus = false := by
  simpa [hmwd, hmrd, hmh] using (BusState.holdsBus_iff (b := b)).not

section
variable {s : State} {i : Instr}

theorem manualReady_of_enabled (hen : s.en = true) (hx : s.mstat.xferInp = false) :
    s.manualReady = true := by
  simp [State.manualReady, hen, hx]

/-- `manual_pre` and the start state are checked before the bus's level, with one refusal (42 R190). -/
theorem exec_manual_refused (hi : ManualCommand i)
    (h : s.manualReady = false ∨ startsManual i s.bus = false) :
    exec i s = .next (s.finish .notReady) := by
  cases hready : s.manualReady
  case false => cases hi <;> exact if_pos (by simp [hready])
  case true =>
    have hb : startsManual i s.bus = false := h.resolve_left (by simp [hready])
    cases hi <;>
      exact (if_neg (by simp [hready])).trans (if_pos (by simpa [startsManual] using hb))

/-- A Start that passed both checks still needs a free bus; a Restart holds the bus already. -/
theorem exec_sendStart_passed (h : s.manualReady = true) (hb : s.bus = .idle) (a7 : Addr7)
    (rw : Dir) :
    exec (.masterSendStart a7 rw) s =
      if s.busBusy then .next (s.finish .busBusy)
      else .next (s.manualAddress rw (addrByte a7 rw) (.start (addrByte a7 rw))) := by
  simp [exec, execMasterSendStart, h, hb]

theorem exec_sendRestart_passed (h : s.manualReady = true) (hb : s.bus.holdsBus = true) (a7 : Addr7)
    (rw : Dir) :
    exec (.masterSendRestart a7 rw) s =
      .next (s.manualAddress rw (addrByte a7 rw) (.restart (addrByte a7 rw))) := by
  simp [exec, execMasterSendRestart, h, hb]

theorem exec_sendStop_passed (h : s.manualReady = true) (hb : s.bus.holdsBus = true) :
    exec .masterSendStop s = .next ((s.emit .stop).goPending false true) := by
  simp [exec, execMasterSendStop, h, hb]

theorem exec_writeByte_passed (h : s.manualReady = true) (hb : s.bus = .mwd) (d : Byte) :
    exec (.masterWriteByte d) s =
      .next (({ s with data := d }.emit (.tx d)).goPending false false) := by
  simp [exec, execMasterWriteByte, h, hb]

theorem exec_readByte_passed (h : s.manualReady = true) (hb : s.bus = .mrd) (k : Bool) :
    exec (.masterReadByte k) s = .next ((s.emit .rx).goPending k false) := by
  simp [exec, execMasterReadByte, h, hb]

end

/-- Settles O16: a start state passes the checks, the Start also on a free bus, and any other is refused. -/
theorem manualAddressCommandsBecomePending : Obligations.ManualAddressCommandsBecomePending := by
  unfold Obligations.ManualAddressCommandsBecomePending
  intro s a7 rw hen hx refused pending
  have hready := manualReady_of_enabled hen hx
  have hpending (act : Action) :
      .next (s.manualAddress rw (addrByte a7 rw) act) = pending act := by cases rw <;> rfl
  refine ⟨fun hb hfree => ?start, fun hb hbusy => ?busy, fun hb => ?notIdle, fun hb => ?restart,
    fun hmwd hmrd hmh => ?notHeld⟩
  case start => rw [exec_sendStart_passed hready hb, hfree, ← hpending]; rfl
  case busy => rw [exec_sendStart_passed hready hb, hbusy]; rfl
  case notIdle => exact exec_manual_refused (.sendStart a7 rw) (.inr (beq_eq_false_iff_ne.mpr hb))
  case restart =>
    rw [exec_sendRestart_passed hready (BusState.holdsBus_iff.mpr hb), hpending]
  case notHeld =>
    exact exec_manual_refused (.sendRestart a7 rw) (.inr (BusState.holdsBus_eq_false hmwd hmrd hmh))

/-- Settles O17: a start state passes the checks, and any other is refused. -/
theorem manualStopAndByteCommandsBecomePending :
    Obligations.ManualStopAndByteCommandsBecomePending := by
  unfold Obligations.ManualStopAndByteCommandsBecomePending
  intro s hen hx
  have hready := manualReady_of_enabled hen hx
  exact ⟨fun hb => exec_sendStop_passed hready (BusState.holdsBus_iff.mpr hb),
    fun d hb => exec_writeByte_passed hready hb d,
    fun k hb => exec_readByte_passed hready hb k,
    fun hmwd hmrd hmh =>
      exec_manual_refused .sendStop (.inr (BusState.holdsBus_eq_false hmwd hmrd hmh)),
    fun d hb => exec_manual_refused (.writeByte d) (.inr (beq_eq_false_iff_ne.mpr hb)),
    fun k hb => exec_manual_refused (.readByte k) (.inr (beq_eq_false_iff_ne.mpr hb))⟩

/-- Settles O18: `manual_pre` fails, whatever the bus state. -/
theorem manualCommandsNeedEnableAndNoTransfer :
    Obligations.ManualCommandsNeedEnableAndNoTransfer := by
  unfold Obligations.ManualCommandsNeedEnableAndNoTransfer
  intro s i hpre hi
  have hready : s.manualReady = false := by rcases hpre with h | h <;> simp [State.manualReady, h]
  have hmanual : ManualCommand i := by
    obtain ⟨a7, rw, rfl⟩ | ⟨a7, rw, rfl⟩ | rfl | ⟨d, rfl⟩ | ⟨k, rfl⟩ := hi <;> constructor
  exact exec_manual_refused hmanual (.inl hready)

end Sys2Proof.Machine
end

section
/-! How a pending manual command ends (42_master_manual R196 to R198, R201): an address wait, a Stop wait, and
the loss of the bus. -/

namespace Sys2Proof.Machine

section
variable {s t : State} {e : Snap} {r : PortReply}

/-! ### Delivery -/

/-- What a pending command waits for is delivered: the Stop too, once it is awaited (40 R101). -/
theorem deliverable_of_awaiting (hs : s.awaiting)
    (h : e.bc = true ∨ e.lostArb = true ∨ e.startAbort = true ∨
      (e.stop = true ∧ s.cmdstat.wstop = true)) : s.deliverable e = true := by
  obtain ⟨hen, hfatal, -, hbusy⟩ := hs
  rcases h with h | h | h | ⟨h, hw⟩
  case inr.inr.inr => simp [State.deliverable, hen, hfatal, hbusy, h, hw]
  all_goals simp [State.deliverable, hen, hfatal, h]

/-- A pending command takes the snapshot, whatever the bus state (40 R103). -/
theorem eventStepOn_awaiting (hs : s.awaiting) (hd : s.deliverable e = true)
    (ht : e.timeout = false) : eventStepOn e r s = closeStep s (manualWait e r s) := by
  obtain ⟨-, -, hdesync, hbusy⟩ := hs
  rw [eventStepOn_of_deliverable hd]
  simp [handle, ht, hdesync, hbusy]

/-! ### The address wait and the Stop wait (42 R197, R198) -/

/-- The byte wait comes first, and a Stop in the same snapshot is then its own (42 R196). -/
theorem manualWait_byte (he : e.plain) (hbc : e.bc = true) (hsaddr : e.saddr = false)
    (hw : s.cmdstat.wstop = false) :
    manualWait e r s =
      if e.stop then
        if (s.byteWait e).cmdstat.wstop then .ok (s.byteWait e).stopDone else .error .desync
      else .ok (s.byteWait e) := by
  obtain ⟨-, hlost, habort⟩ := he
  simp [manualWait, hlost, habort, hsaddr, hw, hbc]

theorem manualWait_stop (he : e.plain) (hbc : e.bc = false) (hsaddr : e.saddr = false)
    (hw : s.cmdstat.wstop = true) : manualWait e r s = .ok s.stopDone := by
  obtain ⟨-, hlost, habort⟩ := he
  simp [manualWait, hlost, habort, hsaddr, hw, hbc]

theorem pendingAddress_iff :
    s.pendingAddress = true ↔ s.cmdstat.lastop = 0x12 ∨ s.cmdstat.lastop = 0x13 := by
  simp [State.pendingAddress, opSendStart, opSendRestart]

theorem byteWait_address (h : s.pendingAddress = true) (e : Snap) :
    s.byteWait e = s.addrWait e.nak :=
  if_pos h

/-- At the ACK the command completes in the data state of its direction. -/
theorem addrWait_ack (hw : s.cmdstat.wstop = false) :
    s.addrWait false = { s with
      bus := if s.bus = .mwa then .mwd else .mrd
      cmdstat := { s.cmdstat with busy := false, code := .noError } } :=
  complete_of_wstop_false (s := { s with bus := if s.bus = .mwa then .mwd else .mrd }) hw .noError

/-- At the NAK the one Stop is emitted, and WSTOP awaits it. -/
theorem addrWait_nak : s.addrWait true = { s with
    actions := s.actions ++ [.stop], cmdstat := { s.cmdstat with wstop := true } } := rfl

/-- The Stop after a NAK completes the command with LB_NAK: it was no MASTER_SEND_STOP. -/
theorem addrWait_nak_stopDone (h : s.pendingAddress = true) (hw : s.cmdstat.wstop = false) :
    (s.addrWait true).stopDone = { s with
      bus := .idle
      actions := s.actions ++ [.stop]
      cmdstat := { s.cmdstat with busy := false, code := .lbNak } } := by
  have hop : s.cmdstat.lastop ≠ opSendStop := by
    rcases pendingAddress_iff.mp h with h | h <;> rw [h] <;> decide
  simp [addrWait_nak, State.stopDone, State.complete, hop, hw]

/-! ### The loss of the bus (42 R201) -/

/-- The state in which the address path is entered after a pending command lost the bus. -/
def State.pendingBusLost (s : State) (lost : Bool) : State :=
  { s with
    bus := .idle
    actions := s.actions ++ (if lost = true then [.release] else [])
    cmdstat := { s.cmdstat with
      busy := false
      wstop := false
      code := if lost = true then .arbLost else .startAborted } }

/-- Lost arbitration ends any pending command, a Start abort an address wait with no Stop awaited. -/
theorem manualWait_arb (harb : e.lostArb = true ∨
      (e.startAbort = true ∧ s.bus.awaitsAddress = true ∧ s.pendingAddress = true ∧
        s.cmdstat.wstop = false)) :
    manualWait e r s = matchAfterLoss e r (s.pendingBusLost e.lostArb) := by
  have hgate : (e.lostArb || e.startAbort) = true := by
    rcases harb with h | ⟨h, -⟩ <;> simp [h]
  have hends : (!e.lostArb && (!s.pendingAddress || s.cmdstat.wstop || !s.bus.awaitsAddress)) =
      false := by
    rcases harb with h | ⟨-, hb, ha, hw⟩
    · simp [h]
    · simp [hb, ha, hw]
  rw [manualWait, if_pos hgate, manualArb, if_neg (by simp [hends])]
  cases hl : e.lostArb
  · simp [State.pendingBusLost, State.complete]
  · rfl

theorem receptive_pendingBusLost (hs : s.awaiting) (lost : Bool) :
    (s.pendingBusLost lost).receptive := by
  obtain ⟨hen, hfatal, hdesync, -⟩ := hs
  exact ⟨hen, hfatal, hdesync, rfl⟩

/-- From Idle, the address carried along is the bare address byte's own step; whatever the state before,
no desync goes back to it. -/
theorem closeStep_matchAfterLoss (ht : t.receptive) (hb : t.bus = .idle) (hbc : e.bc = true)
    (hsaddr : e.saddr = true) (hen : t.cfg.slaveEn = true) :
    closeStep s (matchAfterLoss e r t) =
      eventStepOn ⟨true, true, false, false, false, false, false, e.rx⟩ r t := by
  have hclosed : t.closeChannel = t := by simp [State.closeChannel, hb]
  rw [eventStepOn_slaveAddress ht (by rw [hb]; rfl) ⟨rfl, rfl, rfl⟩ rfl rfl hen, hclosed,
    matchAfterLoss_address hbc hsaddr hen]
  exact closeStep_congr (addressMatch_ne_desync _)

end

/-! ### The statements -/

/-- Settles O43: an address wait ends by the acknowledge bit, and a Stop wait by the Stop. -/
theorem manualAddressAndStopWaits : Obligations.ManualAddressAndStopWaits := by
  unfold Obligations.ManualAddressAndStopWaits
  intro s e r hs he hsaddr
  refine ⟨fun op hop hlast hw hbc _ => ?address, fun hw hbc hstop => ?stop⟩
  case address =>
    have ha : s.pendingAddress = true := pendingAddress_iff.mpr (hlast ▸ hop)
    rw [eventStepOn_awaiting hs (deliverable_of_awaiting hs (.inl hbc)) he.1,
      manualWait_byte he hbc hsaddr hw, byteWait_address ha]
    refine ⟨fun hn hstop => ?ack, fun hn hstop => ?nak, fun hn hstop => ?nakStop⟩
    case ack => rw [hn, hstop, addrWait_ack hw]; rfl
    case nak => rw [hn, hstop]; rfl
    case nakStop =>
      rw [hn, hstop, addrWait_nak_stopDone ha hw]
      rfl
  case stop =>
    rw [eventStepOn_awaiting hs (deliverable_of_awaiting hs (.inr (.inr (.inr ⟨hstop, hw⟩)))) he.1,
      manualWait_stop he hbc hsaddr hw]
    rfl

/-- Settles O45: the command is over in Idle, and a slave address carried along meets the core there. -/
theorem manualCommandLosesTheBus : Obligations.ManualCommandLosesTheBus := by
  unfold Obligations.ManualCommandLosesTheBus
  intro s e r hs ht harb t
  have hd : s.deliverable e = true :=
    deliverable_of_awaiting hs (.inr (harb.imp_right fun h => .inl h.1))
  have hwait : manualWait e r s = matchAfterLoss e r t :=
    manualWait_arb <| harb.imp_right fun ⟨habort, hb, hop, hw⟩ =>
      ⟨habort, by rcases hb with hb | hb <;> rw [hb] <;> rfl, pendingAddress_iff.mpr hop, hw⟩
  rw [eventStepOn_awaiting hs hd ht, hwait]
  refine ⟨fun hnone => ?_, fun hbc hsaddr hen => ?_⟩
  · rw [matchAfterLoss_none (s := t) hnone]
    rfl
  · exact closeStep_matchAfterLoss (receptive_pendingBusLost hs e.lostArb) rfl hbc hsaddr hen

end Sys2Proof.Machine
end

section
/-! MSTAT and the manual commands (42_master_manual R190, D38): neither issuing one nor the snapshots a pending
one takes write it, the address path after a lost bus included. -/

namespace Sys2Proof.Machine

section
variable {s t : State} {e : Snap} {r : PortReply}

theorem CommandEffect.mstat_of_manual {i : Instr} (effect : CommandEffect s i t)
    (hi : ManualCommand i) : t.mstat = s.mstat := by
  cases effect
  case init | startInitialising | stop | writeBuf | readBuf | clearStatus => cases hi
  case clearIdx b => exact setIdx_mstat s b 0
  case install b _ => exact setBuf_mstat s b _
  all_goals rfl

/-- With no transfer in flight there is none to abandon. -/
theorem abandon_of_xferInp_false {m : MStat} (h : m.xferInp = false) : m.abandon = m := by
  cases m
  simp_all [MStat.abandon]

theorem mstat_slaveLoad (h : slaveLoad r s = .ok t) : t.mstat = s.mstat := by
  cases hm : s.srd.more with
  | false =>
    rw [slaveLoad_of_exhausted hm] at h
    cases h
    rfl
  | true =>
    rw [slaveLoad_of_more hm] at h
    rw [memRead_map_ok h]
    rfl

theorem mstat_addressMatch {a : Byte} (h : addressMatch r a s = .ok t) : t.mstat = s.mstat := by
  by_cases ha : addrPart a = s.saddr
  · cases hd : dirPart a with
    | write =>
      rw [addressMatch_write ha hd] at h
      cases h
      rfl
    | read =>
      rw [addressMatch_read ha hd] at h
      exact (mstat_slaveLoad h).trans rfl
  · rw [addressMatch_mismatch ha] at h
    cases h
    rfl

theorem mstat_matchAfterLoss (h : matchAfterLoss e r s = .ok t) : t.mstat = s.mstat := by
  unfold matchAfterLoss at h
  split at h
  · exact mstat_addressMatch h
  · cases h
    rfl

theorem mstat_addrWait (nak : Bool) : (s.addrWait nak).mstat = s.mstat := by
  cases nak <;> rfl

theorem mstat_writeWait (nak : Bool) : (s.writeWait nak).mstat = s.mstat := by
  cases nak <;> rfl

theorem mstat_readWait (b : Byte) : (s.readWait b).mstat = s.mstat := by
  unfold State.readWait
  dsimp only
  split <;> rfl

theorem mstat_byteWait : (s.byteWait e).mstat = s.mstat := by
  unfold State.byteWait
  split
  · exact mstat_addrWait e.nak
  · split
    · exact mstat_writeWait e.nak
    · split
      · exact mstat_readWait e.rx
      · rfl

theorem mstat_manualArb (h : manualArb e r s = .ok t) : t.mstat = s.mstat := by
  unfold manualArb at h
  dsimp only at h
  split at h
  · cases h
  · split at h <;> exact (mstat_matchAfterLoss h).trans rfl

theorem mstat_manualWait (h : manualWait e r s = .ok t) : t.mstat = s.mstat := by
  unfold manualWait at h
  dsimp only at h
  split at h
  · exact mstat_manualArb h
  · split at h
    · cases h
    · split at h
      · split at h <;> cases h
        rfl
      · split at h
        · cases h
        · split at h
          · split at h <;> cases h
            exact mstat_byteWait
          · cases h
            exact mstat_byteWait

/-- A pending command excludes the transfer whose timeout would write MSTAT. -/
theorem mstat_handle_pending (hx : s.mstat.xferInp = false) (hy : s.cmdstat.busy = true)
    (h : handle e r s = .ok t) : t.mstat = s.mstat := by
  unfold handle at h
  split at h
  · cases h
    rw [timeoutRecover_eq]
    exact abandon_of_xferInp_false hx
  · split at h
    · cases h
      rfl
    · exact mstat_manualWait h

end

/-- Settles O47: no effect of a manual command writes MSTAT, and no way a pending one's snapshot is handled
does, nor a desync. -/
theorem manualCommandsNeverWriteMstat : Obligations.ManualCommandsNeverWriteMstat := by
  unfold Obligations.ManualCommandsNeverWriteMstat
  refine ⟨fun s t a7 rw d k i hi h => ?issue, fun s t w r hinv hy h => ?pending⟩
  case issue =>
    refine (exec_effect h).mstat_of_manual ?_
    simp only [List.mem_cons, List.not_mem_nil, or_false] at hi
    obtain rfl | rfl | rfl | rfl | rfl := hi <;> constructor
  case pending =>
    obtain ⟨hx, -, -⟩ := hinv.busyState hy
    rcases eventStepOn_next h with ⟨-, rfl⟩ | ⟨-, hh⟩ | ⟨-, -, rfl⟩
    · rfl
    · exact mstat_handle_pending hx hy hh
    · obtain ⟨f, d, ht⟩ := takeDesync_eq s
      rw [ht]

end Sys2Proof.Machine
end

section
/-! The slave commands (43_slave_api R220 to R230): each answers in one step in every state, and only the
install of a buffer can refuse. -/

namespace Sys2Proof.Machine

/-! ### The install of a buffer -/

section
variable {s : State}

theorem install_of_fits (hptr : s.ptr ≠ 0 ∨ s.cnt = 0)
    (hfits : s.ptr.toNat + s.cnt.toNat ≤ 2 ^ s.cfg.aw) (b : BufId) :
    s.install b = (s.setBuf b ⟨s.ptr, s.cnt, 0⟩).finish .noError := by
  have hnull : ¬ (s.ptr = 0 ∧ s.cnt ≠ 0) := fun ⟨hp, hc⟩ => hptr.elim (· hp) hc
  refine if_neg (not_or.mpr ⟨hnull, ?_⟩)
  simpa [bufferFits_iff] using hfits

theorem install_of_bad (h : (s.ptr = 0 ∧ s.cnt ≠ 0) ∨ 2 ^ s.cfg.aw < s.ptr.toNat + s.cnt.toNat)
    (b : BufId) : s.install b = s.finish .notReady := by
  refine if_pos (h.imp_right fun htop => ?_)
  simpa [bufferFits] using htop

end

/-- Settles O19: the premises of the two clauses are the two outcomes of the check in `State.install`, which
reads no bus state and no EN. -/
theorem slaveBuffersInstallInEveryState : Obligations.SlaveBuffersInstallInEveryState := by
  unfold Obligations.SlaveBuffersInstallInEveryState
  intro s
  refine ⟨fun hptr hfits => ?installed, fun hbad => ?refused⟩
  case installed =>
    have hinstall := install_of_fits hptr hfits
    exact ⟨congrArg Host.Outcome.next (hinstall .srd), congrArg Host.Outcome.next (hinstall .swr)⟩
  case refused =>
    have hrefuse := install_of_bad hbad
    exact ⟨congrArg Host.Outcome.next (hrefuse .srd), congrArg Host.Outcome.next (hrefuse .swr)⟩

/-! ### The status commands -/

/-- The bits of R225, for each value of the six flags. -/
theorem clearRead_toByte (m : SStat) : m.clearRead.toByte = m.toByte &&& 0xFA#8 := by
  obtain ⟨rdCmplt, rdBusy, rdOvfl, wrCmplt, wrBusy, wrOvfl⟩ := m
  decide +revert

/-- The bits of R226, for each value of the six flags. -/
theorem clearWrite_toByte (m : SStat) : m.clearWrite.toByte = m.toByte &&& 0xAF#8 := by
  obtain ⟨rdCmplt, rdBusy, rdOvfl, wrCmplt, wrBusy, wrOvfl⟩ := m
  decide +revert

/-- A mask on the byte of SSTAT is the same mask on the word a host reads. -/
theorem readCsr_sstat_and {s t : State} {mask : Byte}
    (h : t.sstat.toByte = s.sstat.toByte &&& mask) :
    readCsr t 0x1C = readCsr s 0x1C &&& mask.setWidth 32 :=
  (congrArg (BitVec.setWidth 32) h).trans BitVec.setWidth_and

/-- Settles O20: RDATA is SSTAT as it was, and each clearing masks its byte. -/
theorem slaveStatusCommandsReturnSstat : Obligations.SlaveStatusCommandsReturnSstat := by
  unfold Obligations.SlaveStatusCommandsReturnSstat
  intro s
  exact ⟨⟨_, rfl, rfl, rfl⟩,
    ⟨_, rfl, rfl, readCsr_sstat_and (mask := 0xFA) (clearRead_toByte s.sstat), rfl⟩,
    ⟨_, rfl, rfl, readCsr_sstat_and (mask := 0xAF) (clearWrite_toByte s.sstat), rfl⟩⟩

/-! ### The address and the index -/

/-- Settles O21: SADDR is the operand, and `returnSize` and `clearIdx` act on the two slave descriptors. -/
theorem slaveAddressAndBufferAccessors : Obligations.SlaveAddressAndBufferAccessors := by
  unfold Obligations.SlaveAddressAndBufferAccessors
  exact fun s => ⟨fun _ => rfl, rfl, rfl, rfl, rfl⟩

end Sys2Proof.Machine
end

section
/-! Command issue and the lifecycle commands (44_lifecycle R250 to R254): the gates of a CMD write, and the
effects of INIT, ENABLE, START and STOP. -/

namespace Sys2Proof.Machine

/-! ### The gates of command issue -/

section
variable {s : State} {w : Word}

theorem cmdWrite_of_fatal (hf : s.fatal = true) : cmdWrite w s = .next s :=
  if_pos hf

theorem cmdWrite_of_busy (hf : s.fatal = false) (hy : s.cmdstat.busy = true) :
    cmdWrite w s = .next { s with cmdstat := { s.cmdstat with ovr := true } } := by
  simp [cmdWrite, hf, hy]

end

/-- Settles O8: one clause per gate of R250, in its order. -/
theorem commandIssueGates : Obligations.CommandIssueGates := by
  unfold Obligations.CommandIssueGates
  exact fun s w => ⟨cmdWrite_of_fatal, cmdWrite_of_busy, fun _ => cmdWrite_of_decoded⟩

/-! ### INIT, ENABLE and START -/

section
variable {s : State}

theorem exec_init_of_enabled (hen : s.en = true) : exec .init s = .next (s.finish .notReady) :=
  if_pos hen

theorem exec_init_of_disabled (hen : s.en = false) :
    exec .init s = .next (s.initEffects.finish .noError) :=
  if_neg (by simp [hen])

/-- START of a core initialised or enabled before is ENABLE. -/
theorem exec_start_of_ready (h : s.inited = true ∨ s.en = true) : exec .start s = exec .enable s := by
  have hskip : (!s.inited && !s.en) = false := by
    rcases h with h | h <;> simp [h]
  show execStart s = execEnable s
  simp [execStart, execEnable, hskip]

/-- The first START of a disabled core is INIT's effects, then ENABLE. -/
theorem exec_start_of_fresh (hin : s.inited = false) (hen : s.en = false) :
    exec .start s = exec .enable s.initEffects := by
  show execStart s = execEnable s.initEffects
  simp [execStart, execEnable, hin, hen]

end

/-- Settles O9: the two outcomes of the test of EN. -/
theorem initWritesTheListedElements : Obligations.InitWritesTheListedElements := by
  unfold Obligations.InitWritesTheListedElements
  exact fun s => ⟨exec_init_of_enabled, exec_init_of_disabled⟩

/-- Settles O10: START is ENABLE, of the state INIT leaves when neither INITED nor EN is set. -/
theorem enableAndStartSetEn : Obligations.EnableAndStartSetEn := by
  unfold Obligations.EnableAndStartSetEn
  refine fun s => ⟨rfl, exec_start_of_ready, fun hin hen => ?_⟩
  have hstart := exec_start_of_fresh hin hen
  exact ⟨_, exec_init_of_disabled hen, rfl, hstart, hstart⟩

/-! ### STOP -/

theorem BusState.isMaster_eq_false_iff {b : BusState} :
    b.isMaster = false ↔ b = .idle ∨ b = .swd ∨ b = .srd := by
  cases b <;> simp [BusState.isMaster]

/-- STOP emits RELEASE from a master state, and from no other (44_lifecycle R254). -/
theorem exec_stop (s : State) :
    exec .stop s = .next ({ s with
      actions := s.actions ++ (if s.bus.isMaster then [Action.release] else [])
      mstat := s.mstat.abandon
      sstat := s.sstat.dropBusy
      stopIe := false
      desync := false
      bus := .idle
      en := false }.finish .noError) := by
  show execStop s = _
  unfold execStop
  cases s.bus.isMaster
  · simp
  · rfl

/-- Settles O11: the states without RELEASE are those that are no master's. -/
theorem stopAbandonsWhatIsInProgress : Obligations.StopAbandonsWhatIsInProgress := by
  unfold Obligations.StopAbandonsWhatIsInProgress
  intro s
  rw [exec_stop]
  cases hm : s.bus.isMaster with
  | false => rw [if_pos (BusState.isMaster_eq_false_iff.mp hm)]; rfl
  | true => rw [if_neg (mt BusState.isMaster_eq_false_iff.mpr (by simp [hm]))]; rfl

end Sys2Proof.Machine
end

section
/-! Which snapshots desync (60_exceptions R274): for each handler, exactly when it answers a desync. The port
never does, and no result of a handler is the state a desync leaves. -/

namespace Sys2Proof.Machine

section
variable {s : State} {e : Snap} {r : PortReply}

theorem BusState.isMaster_iff {b : BusState} :
    b.isMaster = true ↔ b = .mwa ∨ b = .mwd ∨ b = .mra ∨ b = .mrd ∨ b = .mh := by
  cases b <;> simp [BusState.isMaster]

theorem BusState.awaitsAddress_iff {b : BusState} :
    b.awaitsAddress = true ↔ b = .mwa ∨ b = .mra := by
  cases b <;> simp [BusState.awaitsAddress]

/-- The states of a transfer in which a Start abort cannot preempt it (40 R108). -/
theorem BusState.awaitsAddress_eq_false_iff {b : BusState} (hm : b.isMaster = true) (hmh : b ≠ .mh) :
    b.awaitsAddress = false ↔ b = .mwd ∨ b = .mrd := by
  rcases BusState.isMaster_iff.mp hm with hb | hb | hb | hb | hb
  case inr.inr.inr.inr => exact absurd hb hmh
  all_goals simp [hb, BusState.awaitsAddress]

/-- With an arbitration bit set, a Start abort is all there is where the bus was not lost. -/
theorem startAbort_and_not_lost_iff (harb : e.lostArb = true ∨ e.startAbort = true) {p : Prop} :
    e.startAbort = true ∧ e.lostArb = false ∧ p ↔ e.lostArb = false ∧ p :=
  and_iff_right_of_imp fun ⟨hl, _⟩ => by simpa [hl] using harb

/-! ### The step and its handler -/

/-- The result of a handler sets neither fault, so only a desync leaves the state of one. -/
theorem eventStepOn_eq_takeDesync_iff (hf : s.fatal = false) (hdesync : s.desync = false)
    (hd : s.deliverable e = true) :
    eventStepOn e r s = .next s.takeDesync ↔ handle e r s = .error .desync := by
  rw [eventStepOn_of_deliverable hd]
  refine ⟨fun h => ?_, fun h => by rw [h]; rfl⟩
  rcases closeStep_next h with hok | ⟨herr, -⟩
  · have k := EngineKeeps.handle hok
    rcases takeDesync_sets_fault s with hset | hset
    · exact absurd (k.fatal.symm.trans hset) (by simp [hf])
    · exact absurd (k.desync hset) (by simp [hdesync])
  · exact herr

theorem handle_awaiting (hs : s.awaiting) (ht : e.timeout = false) :
    handle e r s = manualWait e r s := by
  obtain ⟨-, -, hdesync, hbusy⟩ := hs
  simp [handle, ht, hdesync, hbusy]

theorem handle_master (hs : s.receptive) (ht : e.timeout = false) (hm : s.bus.isMaster = true) :
    handle e r s = masterEvent e r s := by
  obtain ⟨-, -, hdesync, hbusy⟩ := hs
  simp [handle, ht, hdesync, hbusy, hm]

theorem handle_slave (hs : s.receptive) (ht : e.timeout = false) (hm : s.bus.isMaster = false) :
    handle e r s = slaveEvent e r s := by
  obtain ⟨-, -, hdesync, hbusy⟩ := hs
  simp [handle, ht, hdesync, hbusy, hm]

theorem matchAfterLoss_ne_desync : matchAfterLoss e r s ≠ .error .desync := by
  unfold matchAfterLoss
  split
  · exact addressMatch_ne_desync _
  · simp

/-! ### The master handlers (40 R107 to R109, R117) -/

theorem arbEvent_eq_desync_iff (hm : s.bus.isMaster = true) :
    arbEvent e r s = .error .desync ↔
      (s.mstat.xferInp = false ∨ s.bus = .mh) ∨
        (e.lostArb = false ∧ (s.bus = .mwd ∨ s.bus = .mrd)) := by
  unfold arbEvent
  split
  case isTrue hend => exact iff_of_true rfl (.inl (by simpa using hend))
  case isFalse hend =>
    have hend : ¬ (s.mstat.xferInp = false ∨ s.bus = .mh) := by simpa using hend
    rw [or_iff_right hend, ← BusState.awaitsAddress_eq_false_iff hm (not_or.mp hend).2]
    split
    case isTrue hlate => exact iff_of_true rfl (by simpa using hlate)
    case isFalse hlate => exact iff_of_false matchAfterLoss_ne_desync (by simpa using hlate)

theorem sendNext_ne_desync : sendNext r s ≠ .error .desync := by
  cases hm : s.mwr.more
  · simp [sendNext_of_exhausted hm]
  · rw [sendNext_of_more hm]
    exact map_ne_desync _ (memRead_ne_desync _)

/-- A byte past the end of MRD is the only one that reading refuses (40 R117). -/
theorem readByte_eq_desync_iff {v : Byte} :
    readByte r v s = .error .desync ↔ s.mrd.more = false := by
  cases hm : s.mrd.more
  · simp [readByte_of_full hm]
  · rw [readByte_of_more hm]
    exact iff_of_false (map_ne_desync _ (memWrite_ne_desync _ _)) (by simp)

/-- With the transfer in flight, a byte desyncs in Halted, or in MRD when the buffer is full. -/
theorem masterByte_eq_desync_iff_of_inFlight (hs : s.inFlight) (hm : s.bus.isMaster = true) :
    masterByte e r s = .error .desync ↔ s.bus = .mh ∨ (s.bus = .mrd ∧ s.mrd.more = false) := by
  rcases BusState.isMaster_iff.mp hm with hb | hb | hb | hb | hb
  case inl | inr.inl =>
    refine iff_of_false ?_ (by simp [hb])
    cases hn : e.nak
    · rw [masterByte_write_ack hs (by simp [hb]) hn]
      exact sendNext_ne_desync
    · simp [masterByte_mwa_nak hs, masterByte_mwd_nak hs, hb, hn]
  case inr.inr.inl =>
    refine iff_of_false ?_ (by simp [hb])
    cases hn : e.nak
    · simp [masterByte_mra_ack hs hb hn]
    · simp [masterByte_mra_nak hs hb hn]
  case inr.inr.inr.inl => simp [masterByte_mrd hs hb, readByte_eq_desync_iff, hb]
  case inr.inr.inr.inr => simp [masterByte, hb]

theorem masterByte_eq_desync_iff (hs : s.receptive) (hm : s.bus.isMaster = true) :
    masterByte e r s = .error .desync ↔
      (s.stopIe = true ∨ s.mstat.xferInp = false ∨ s.bus = .mh) ∨
        (s.bus = .mrd ∧ s.mrd.more = false) := by
  by_cases hgate : s.stopIe = true ∨ s.mstat.xferInp = false
  · refine iff_of_true (if_pos (by simpa using hgate)) ?_
    exact .inl (hgate.imp_right .inl)
  · obtain ⟨hi, hx⟩ := not_or.mp hgate
    have hflight : s.inFlight := ⟨hs, by simpa using hx, by simpa using hi⟩
    simp [masterByte_eq_desync_iff_of_inFlight hflight hm, hi, hx]

theorem masterEvent_of_arb (harb : e.lostArb = true ∨ e.startAbort = true) :
    masterEvent e r s = arbEvent e r s :=
  if_pos (by simpa using harb)

/-- The Stop that comes with a byte never desyncs (40 R119). -/
theorem masterEvent_eq_desync_iff (harb : ¬ (e.lostArb = true ∨ e.startAbort = true)) :
    masterEvent e r s = .error .desync ↔
      e.saddr = true ∨ (e.bc = true ∧ masterByte e r s = .error .desync) := by
  rw [masterEvent, if_neg (by simpa using harb)]
  cases e.saddr
  case true => simp
  cases e.bc
  case false => simp
  case true => cases masterByte e r s <;> simp

/-! ### The slave handler (40 R125, R138) -/

theorem slaveData_eq_desync_iff (hm : s.bus.isMaster = false) :
    slaveData e r s = .error .desync ↔ s.bus = .idle := by
  rcases BusState.isMaster_eq_false_iff.mp hm with hb | hb
  · simp [slaveData, hb]
  · exact iff_of_false (slaveData_ne_desync hb) (by rcases hb with hb | hb <;> simp [hb])

theorem slaveEvent_of_arb (harb : e.lostArb = true ∨ e.startAbort = true) :
    slaveEvent e r s = .error .desync :=
  if_pos (by simpa using harb)

theorem slaveEvent_eq_desync_iff (hm : s.bus.isMaster = false)
    (harb : ¬ (e.lostArb = true ∨ e.startAbort = true)) :
    slaveEvent e r s = .error .desync ↔
      (e.bc = true ∧ e.saddr = true ∧ s.cfg.slaveEn = false) ∨
      (s.bus = .idle ∧ e.bc = true ∧ e.saddr = false) ∨
      (e.saddr = true ∧ e.bc = false) := by
  rw [slaveEvent, if_neg (by simpa using harb)]
  cases hbc : e.bc <;> cases hsaddr : e.saddr
  case false.false => cases e.stop <;> simp
  case false.true => simp
  case true.false =>
    rw [← slaveData_eq_desync_iff (e := e) (r := r) hm]
    cases slaveData e r s <;> simp
  case true.true =>
    cases s.cfg.slaveEn
    · simp
    · simp [addressMatch_ne_desync]

/-! ### A pending manual command (42 R196, R201) -/

theorem manualArb_eq_desync_iff :
    manualArb e r s = .error .desync ↔
      e.lostArb = false ∧
        ¬ (s.pendingAddress = true ∧ s.cmdstat.wstop = false ∧ s.bus.awaitsAddress = true) := by
  unfold manualArb
  split
  case isTrue h =>
    refine iff_of_true rfl ?_
    simpa [imp_iff_not_or, or_assoc] using h
  case isFalse h =>
    refine iff_of_false matchAfterLoss_ne_desync ?_
    simpa [imp_iff_not_or, or_assoc] using h

theorem writeWait_wstop (nak : Bool) : (s.writeWait nak).cmdstat.wstop = false := by
  cases nak <;> rfl

theorem readWait_wstop (b : Byte) : (s.readWait b).cmdstat.wstop = false := rfl

/-- Of the byte waits only an address NAK goes on to await a Stop (42 R197 to R200). -/
theorem byteWait_wstop (hw : s.cmdstat.wstop = false) :
    (s.byteWait e).cmdstat.wstop = true ↔ s.pendingAddress = true ∧ e.nak = true := by
  cases ha : s.pendingAddress
  case true =>
    rw [byteWait_address ha]
    cases e.nak
    · simp [addrWait_ack hw, hw]
    · simp [addrWait_nak]
  case false =>
    refine iff_of_false ?_ (by simp)
    rw [State.byteWait, if_neg (by simp [ha])]
    split
    · simp [writeWait_wstop]
    · split
      · simp [readWait_wstop]
      · simp [hw]

theorem manualWait_of_arb (harb : e.lostArb = true ∨ e.startAbort = true) :
    manualWait e r s = manualArb e r s :=
  if_pos (by simpa using harb)

/-- A Stop wait takes no byte; a byte wait needs one, and a Stop with it only after an address NAK. -/
theorem manualWait_eq_desync_iff (harb : ¬ (e.lostArb = true ∨ e.startAbort = true)) :
    manualWait e r s = .error .desync ↔
      e.saddr = true ∨ (s.cmdstat.wstop = true ∧ e.bc = true) ∨
      (s.cmdstat.wstop = false ∧
        (e.bc = false ∨ (e.stop = true ∧ ¬ (s.pendingAddress = true ∧ e.nak = true)))) := by
  rw [manualWait, if_neg (by simpa using harb)]
  cases e.saddr
  case true => simp
  cases hw : s.cmdstat.wstop
  case true => cases e.bc <;> simp
  case false =>
    rw [← byteWait_wstop hw]
    cases e.bc
    · simp
    · cases e.stop <;> simp

end

/-! ### The statements -/

/-- Settles O31: each handler's desyncs, with the arbitration bits first (40 R107, R125). -/
theorem desyncExactlyOnTheListedSnapshots : Obligations.DesyncExactlyOnTheListedSnapshots := by
  unfold Obligations.DesyncExactlyOnTheListedSnapshots
  intro s e r hs hd ht arb master
  have ⟨_, hf, hdesync, _⟩ := hs
  refine (eventStepOn_eq_takeDesync_iff hf hdesync hd).trans ?_
  have hmaster : master ↔ s.bus.isMaster = true := BusState.isMaster_iff.symm
  cases hm : s.bus.isMaster
  case true =>
    have hidle : s.bus ≠ .idle := fun hb => by simp [hb, BusState.isMaster] at hm
    rw [handle_master hs ht hm]
    by_cases harb : arb
    · rw [masterEvent_of_arb harb, arbEvent_eq_desync_iff hm, startAbort_and_not_lost_iff harb]
      simp [harb, hmaster, hm, hidle]
    · obtain ⟨-, habort⟩ := not_or.mp harb
      rw [masterEvent_eq_desync_iff harb, masterByte_eq_desync_iff hs hm, not_more_iff]
      simp [harb, hmaster, hm, hidle, habort, and_or_left, or_assoc, and_left_comm]
  case false =>
    rw [handle_slave hs ht hm]
    by_cases harb : arb
    · exact iff_of_true (slaveEvent_of_arb harb) (by simp [hmaster, hm, harb])
    · obtain ⟨-, habort⟩ := not_or.mp harb
      have hmrd : s.bus ≠ .mrd := fun hb => by simp [hb, BusState.isMaster] at hm
      rw [slaveEvent_eq_desync_iff hm harb]
      simp [harb, hmaster, hm, habort, hmrd]

/-- Settles O32: the desyncs of `manual_wait(E)` and, with an arbitration bit, of `manual_arb(E)`. -/
theorem pendingCommandDesyncsExactlyOnTheListedSnapshots :
    Obligations.PendingCommandDesyncsExactlyOnTheListedSnapshots := by
  unfold Obligations.PendingCommandDesyncsExactlyOnTheListedSnapshots
  intro s e r hs hd ht arb address
  have ⟨_, hf, hdesync, _⟩ := hs
  refine (eventStepOn_eq_takeDesync_iff hf hdesync hd).trans ?_
  have haddress : s.pendingAddress = true ↔ address := pendingAddress_iff
  rw [handle_awaiting hs ht]
  by_cases harb : arb
  · rw [manualWait_of_arb harb, manualArb_eq_desync_iff, haddress, BusState.awaitsAddress_iff,
      startAbort_and_not_lost_iff harb]
    simp only [harb, not_true, false_and, false_or]
  · obtain ⟨-, habort⟩ := not_or.mp harb
    rw [manualWait_eq_desync_iff harb, haddress]
    simp [harb, habort, and_or_left]

end Sys2Proof.Machine
end
